-- ==== Sys2Proof/Word.lean ====
section
/-! DEFINITION. The widths of the JS6502 core (spec 00_scope.md R6, R8): bytes and 16-bit addresses. -/

namespace Sys2Proof

/-- A byte: the data width of A, X, Y, SP and of every memory cell (R6, R8). -/
abbrev Byte := BitVec 8

/-- A 16-bit byte address, and the width of PC (R6). Arithmetic on it wraps modulo 2^16 (R69). -/
abbrev Addr := BitVec 16

end Sys2Proof
end

