-- ==== Sys2Proof/Syntax.lean ====
section
/-! DEFINITION. The instructions: one constructor for every legal row of spec/opcode_table.json (a mnemonic in
one addressing mode, R90, R94), with the operand bytes of its format (R91), and one constructor for the 105 rows
of UNDEFINED, which differ only in the byte it carries (R95). Argument names: `v` an immediate byte, `z` a zero-page
byte, `w` a 16-bit operand, `d` a displacement. -/

namespace Sys2Proof

/-- An instruction as the decoder hands it to the machine. -/
inductive Instr
  -- Loads, stores and transfers (41_load_store_transfer.md)
  | ldaImmediate (v : Byte)
  | ldaZeroPage (z : Byte)
  | ldaZeroPageX (z : Byte)
  | ldaAbsolute (w : Addr)
  | ldaAbsoluteX (w : Addr)
  | ldaAbsoluteY (w : Addr)
  | ldaIndirectX (z : Byte)
  | ldaIndirectY (z : Byte)
  | ldxImmediate (v : Byte)
  | ldxZeroPage (z : Byte)
  | ldxZeroPageY (z : Byte)
  | ldxAbsolute (w : Addr)
  | ldxAbsoluteY (w : Addr)
  | ldyImmediate (v : Byte)
  | ldyZeroPage (z : Byte)
  | ldyZeroPageX (z : Byte)
  | ldyAbsolute (w : Addr)
  | ldyAbsoluteX (w : Addr)
  | staZeroPage (z : Byte)
  | staZeroPageX (z : Byte)
  | staAbsolute (w : Addr)
  | staAbsoluteX (w : Addr)
  | staAbsoluteY (w : Addr)
  | staIndirectX (z : Byte)
  | staIndirectY (z : Byte)
  | stxZeroPage (z : Byte)
  | stxZeroPageY (z : Byte)
  | stxAbsolute (w : Addr)
  | styZeroPage (z : Byte)
  | styZeroPageX (z : Byte)
  | styAbsolute (w : Addr)
  | tax
  | tay
  | txa
  | tya
  | tsx
  | txs
  -- Arithmetic, logic, compare, increment (42_arithmetic_logic.md)
  | adcImmediate (v : Byte)
  | adcZeroPage (z : Byte)
  | adcZeroPageX (z : Byte)
  | adcAbsolute (w : Addr)
  | adcAbsoluteX (w : Addr)
  | adcAbsoluteY (w : Addr)
  | adcIndirectX (z : Byte)
  | adcIndirectY (z : Byte)
  | sbcImmediate (v : Byte)
  | sbcZeroPage (z : Byte)
  | sbcZeroPageX (z : Byte)
  | sbcAbsolute (w : Addr)
  | sbcAbsoluteX (w : Addr)
  | sbcAbsoluteY (w : Addr)
  | sbcIndirectX (z : Byte)
  | sbcIndirectY (z : Byte)
  | andImmediate (v : Byte)
  | andZeroPage (z : Byte)
  | andZeroPageX (z : Byte)
  | andAbsolute (w : Addr)
  | andAbsoluteX (w : Addr)
  | andAbsoluteY (w : Addr)
  | andIndirectX (z : Byte)
  | andIndirectY (z : Byte)
  | oraImmediate (v : Byte)
  | oraZeroPage (z : Byte)
  | oraZeroPageX (z : Byte)
  | oraAbsolute (w : Addr)
  | oraAbsoluteX (w : Addr)
  | oraAbsoluteY (w : Addr)
  | oraIndirectX (z : Byte)
  | oraIndirectY (z : Byte)
  | eorImmediate (v : Byte)
  | eorZeroPage (z : Byte)
  | eorZeroPageX (z : Byte)
  | eorAbsolute (w : Addr)
  | eorAbsoluteX (w : Addr)
  | eorAbsoluteY (w : Addr)
  | eorIndirectX (z : Byte)
  | eorIndirectY (z : Byte)
  | cmpImmediate (v : Byte)
  | cmpZeroPage (z : Byte)
  | cmpZeroPageX (z : Byte)
  | cmpAbsolute (w : Addr)
  | cmpAbsoluteX (w : Addr)
  | cmpAbsoluteY (w : Addr)
  | cmpIndirectX (z : Byte)
  | cmpIndirectY (z : Byte)
  | cpxImmediate (v : Byte)
  | cpxZeroPage (z : Byte)
  | cpxAbsolute (w : Addr)
  | cpyImmediate (v : Byte)
  | cpyZeroPage (z : Byte)
  | cpyAbsolute (w : Addr)
  | bitZeroPage (z : Byte)
  | bitAbsolute (w : Addr)
  | incZeroPage (z : Byte)
  | incZeroPageX (z : Byte)
  | incAbsolute (w : Addr)
  | incAbsoluteX (w : Addr)
  | decZeroPage (z : Byte)
  | decZeroPageX (z : Byte)
  | decAbsolute (w : Addr)
  | decAbsoluteX (w : Addr)
  | inx
  | iny
  | dex
  | dey
  -- Shifts and rotates (43_shift_rotate.md)
  | aslAccumulator
  | aslZeroPage (z : Byte)
  | aslZeroPageX (z : Byte)
  | aslAbsolute (w : Addr)
  | aslAbsoluteX (w : Addr)
  | lsrAccumulator
  | lsrZeroPage (z : Byte)
  | lsrZeroPageX (z : Byte)
  | lsrAbsolute (w : Addr)
  | lsrAbsoluteX (w : Addr)
  | rolAccumulator
  | rolZeroPage (z : Byte)
  | rolZeroPageX (z : Byte)
  | rolAbsolute (w : Addr)
  | rolAbsoluteX (w : Addr)
  | rorAccumulator
  | rorZeroPage (z : Byte)
  | rorZeroPageX (z : Byte)
  | rorAbsolute (w : Addr)
  | rorAbsoluteX (w : Addr)
  -- Control transfer (44_control_transfer.md)
  | bcc (d : Byte)
  | bcs (d : Byte)
  | beq (d : Byte)
  | bne (d : Byte)
  | bmi (d : Byte)
  | bpl (d : Byte)
  | bvc (d : Byte)
  | bvs (d : Byte)
  | jmpAbsolute (w : Addr)
  | jmpIndirect (w : Addr)
  | jsr (w : Addr)
  | rts
  | rti
  | brk
  -- Stack, flags, no operation (45_stack_flag_misc.md)
  | pha
  | php
  | pla
  | plp
  | clc
  | cld
  | cli
  | clv
  | sec
  | sed
  | sei
  | nop
  -- The undefined opcode bytes (48_dispatch_loop.md R253)
  | undefined (op : Byte)
  deriving DecidableEq, Repr

/-- The 56 mnemonics (R2), and UNDEFINED for the undefined bytes, as the opcode table names them. -/
inductive Mnemonic
  | lda | ldx | ldy | sta | stx | sty | tax | tay
  | txa | tya | tsx | txs | adc | sbc | and | ora
  | eor | cmp | cpx | cpy | bit | inc | dec | inx
  | iny | dex | dey | asl | lsr | rol | ror | bcc
  | bcs | beq | bne | bmi | bpl | bvc | bvs | jmp
  | jsr | rts | rti | brk | pha | php | pla | plp
  | clc | cld | cli | clv | sec | sed | sei | nop
  | undefined
  deriving DecidableEq, Repr

/-- The 13 addressing modes (R6, 40_addressing_modes.md), and the undefined bytes, which have no mode (R250). -/
inductive Mode
  | implied | accumulator | immediate | zeroPage | zeroPageX | zeroPageY
  | absolute | absoluteX | absoluteY | indirect | indirectX | indirectY | relative
  | absent
  deriving DecidableEq, Repr

/-- The length in bytes of an instruction of the mode (R91); an undefined byte has length 1 (R93). -/
def Mode.length : Mode → Nat
  | .implied | .accumulator | .absent => 1
  | .immediate | .zeroPage | .zeroPageX | .zeroPageY | .indirectX | .indirectY | .relative => 2
  | .absolute | .absoluteX | .absoluteY | .indirect => 3

/-- The mnemonic of an instruction (the map of R94). -/
def Instr.mnemonic : Instr → Mnemonic
  | .ldaImmediate _ | .ldaZeroPage _ | .ldaZeroPageX _ | .ldaAbsolute _ | .ldaAbsoluteX _ | .ldaAbsoluteY _
  | .ldaIndirectX _ | .ldaIndirectY _ => .lda
  | .ldxImmediate _ | .ldxZeroPage _ | .ldxZeroPageY _ | .ldxAbsolute _ | .ldxAbsoluteY _ => .ldx
  | .ldyImmediate _ | .ldyZeroPage _ | .ldyZeroPageX _ | .ldyAbsolute _ | .ldyAbsoluteX _ => .ldy
  | .staZeroPage _ | .staZeroPageX _ | .staAbsolute _ | .staAbsoluteX _ | .staAbsoluteY _ | .staIndirectX _
  | .staIndirectY _ => .sta
  | .stxZeroPage _ | .stxZeroPageY _ | .stxAbsolute _ => .stx
  | .styZeroPage _ | .styZeroPageX _ | .styAbsolute _ => .sty
  | .tax => .tax
  | .tay => .tay
  | .txa => .txa
  | .tya => .tya
  | .tsx => .tsx
  | .txs => .txs
  | .adcImmediate _ | .adcZeroPage _ | .adcZeroPageX _ | .adcAbsolute _ | .adcAbsoluteX _ | .adcAbsoluteY _
  | .adcIndirectX _ | .adcIndirectY _ => .adc
  | .sbcImmediate _ | .sbcZeroPage _ | .sbcZeroPageX _ | .sbcAbsolute _ | .sbcAbsoluteX _ | .sbcAbsoluteY _
  | .sbcIndirectX _ | .sbcIndirectY _ => .sbc
  | .andImmediate _ | .andZeroPage _ | .andZeroPageX _ | .andAbsolute _ | .andAbsoluteX _ | .andAbsoluteY _
  | .andIndirectX _ | .andIndirectY _ => .and
  | .oraImmediate _ | .oraZeroPage _ | .oraZeroPageX _ | .oraAbsolute _ | .oraAbsoluteX _ | .oraAbsoluteY _
  | .oraIndirectX _ | .oraIndirectY _ => .ora
  | .eorImmediate _ | .eorZeroPage _ | .eorZeroPageX _ | .eorAbsolute _ | .eorAbsoluteX _ | .eorAbsoluteY _
  | .eorIndirectX _ | .eorIndirectY _ => .eor
  | .cmpImmediate _ | .cmpZeroPage _ | .cmpZeroPageX _ | .cmpAbsolute _ | .cmpAbsoluteX _ | .cmpAbsoluteY _
  | .cmpIndirectX _ | .cmpIndirectY _ => .cmp
  | .cpxImmediate _ | .cpxZeroPage _ | .cpxAbsolute _ => .cpx
  | .cpyImmediate _ | .cpyZeroPage _ | .cpyAbsolute _ => .cpy
  | .bitZeroPage _ | .bitAbsolute _ => .bit
  | .incZeroPage _ | .incZeroPageX _ | .incAbsolute _ | .incAbsoluteX _ => .inc
  | .decZeroPage _ | .decZeroPageX _ | .decAbsolute _ | .decAbsoluteX _ => .dec
  | .inx => .inx
  | .iny => .iny
  | .dex => .dex
  | .dey => .dey
  | .aslAccumulator | .aslZeroPage _ | .aslZeroPageX _ | .aslAbsolute _ | .aslAbsoluteX _ => .asl
  | .lsrAccumulator | .lsrZeroPage _ | .lsrZeroPageX _ | .lsrAbsolute _ | .lsrAbsoluteX _ => .lsr
  | .rolAccumulator | .rolZeroPage _ | .rolZeroPageX _ | .rolAbsolute _ | .rolAbsoluteX _ => .rol
  | .rorAccumulator | .rorZeroPage _ | .rorZeroPageX _ | .rorAbsolute _ | .rorAbsoluteX _ => .ror
  | .bcc _ => .bcc
  | .bcs _ => .bcs
  | .beq _ => .beq
  | .bne _ => .bne
  | .bmi _ => .bmi
  | .bpl _ => .bpl
  | .bvc _ => .bvc
  | .bvs _ => .bvs
  | .jmpAbsolute _ | .jmpIndirect _ => .jmp
  | .jsr _ => .jsr
  | .rts => .rts
  | .rti => .rti
  | .brk => .brk
  | .pha => .pha
  | .php => .php
  | .pla => .pla
  | .plp => .plp
  | .clc => .clc
  | .cld => .cld
  | .cli => .cli
  | .clv => .clv
  | .sec => .sec
  | .sed => .sed
  | .sei => .sei
  | .nop => .nop
  | .undefined _ => .undefined

/-- The addressing mode of an instruction (the map of R94). -/
def Instr.mode : Instr → Mode
  | .tax | .tay | .txa | .tya | .tsx | .txs | .inx | .iny | .dex | .dey | .rts | .rti | .brk | .pha | .php
  | .pla | .plp | .clc | .cld | .cli | .clv | .sec | .sed | .sei | .nop => .implied
  | .aslAccumulator | .lsrAccumulator | .rolAccumulator | .rorAccumulator => .accumulator
  | .ldaImmediate _ | .ldxImmediate _ | .ldyImmediate _ | .adcImmediate _ | .sbcImmediate _
  | .andImmediate _ | .oraImmediate _ | .eorImmediate _ | .cmpImmediate _ | .cpxImmediate _
  | .cpyImmediate _ => .immediate
  | .ldaZeroPage _ | .ldxZeroPage _ | .ldyZeroPage _ | .staZeroPage _ | .stxZeroPage _ | .styZeroPage _
  | .adcZeroPage _ | .sbcZeroPage _ | .andZeroPage _ | .oraZeroPage _ | .eorZeroPage _ | .cmpZeroPage _
  | .cpxZeroPage _ | .cpyZeroPage _ | .bitZeroPage _ | .incZeroPage _ | .decZeroPage _ | .aslZeroPage _
  | .lsrZeroPage _ | .rolZeroPage _ | .rorZeroPage _ => .zeroPage
  | .ldaZeroPageX _ | .ldyZeroPageX _ | .staZeroPageX _ | .styZeroPageX _ | .adcZeroPageX _
  | .sbcZeroPageX _ | .andZeroPageX _ | .oraZeroPageX _ | .eorZeroPageX _ | .cmpZeroPageX _
  | .incZeroPageX _ | .decZeroPageX _ | .aslZeroPageX _ | .lsrZeroPageX _ | .rolZeroPageX _
  | .rorZeroPageX _ => .zeroPageX
  | .ldxZeroPageY _ | .stxZeroPageY _ => .zeroPageY
  | .ldaAbsolute _ | .ldxAbsolute _ | .ldyAbsolute _ | .staAbsolute _ | .stxAbsolute _ | .styAbsolute _
  | .adcAbsolute _ | .sbcAbsolute _ | .andAbsolute _ | .oraAbsolute _ | .eorAbsolute _ | .cmpAbsolute _
  | .cpxAbsolute _ | .cpyAbsolute _ | .bitAbsolute _ | .incAbsolute _ | .decAbsolute _ | .aslAbsolute _
  | .lsrAbsolute _ | .rolAbsolute _ | .rorAbsolute _ | .jmpAbsolute _ | .jsr _ => .absolute
  | .ldaAbsoluteX _ | .ldyAbsoluteX _ | .staAbsoluteX _ | .adcAbsoluteX _ | .sbcAbsoluteX _
  | .andAbsoluteX _ | .oraAbsoluteX _ | .eorAbsoluteX _ | .cmpAbsoluteX _ | .incAbsoluteX _
  | .decAbsoluteX _ | .aslAbsoluteX _ | .lsrAbsoluteX _ | .rolAbsoluteX _ | .rorAbsoluteX _ => .absoluteX
  | .ldaAbsoluteY _ | .ldxAbsoluteY _ | .staAbsoluteY _ | .adcAbsoluteY _ | .sbcAbsoluteY _
  | .andAbsoluteY _ | .oraAbsoluteY _ | .eorAbsoluteY _ | .cmpAbsoluteY _ => .absoluteY
  | .jmpIndirect _ => .indirect
  | .ldaIndirectX _ | .staIndirectX _ | .adcIndirectX _ | .sbcIndirectX _ | .andIndirectX _
  | .oraIndirectX _ | .eorIndirectX _ | .cmpIndirectX _ => .indirectX
  | .ldaIndirectY _ | .staIndirectY _ | .adcIndirectY _ | .sbcIndirectY _ | .andIndirectY _
  | .oraIndirectY _ | .eorIndirectY _ | .cmpIndirectY _ => .indirectY
  | .bcc _ | .bcs _ | .beq _ | .bne _ | .bmi _ | .bpl _ | .bvc _ | .bvs _ => .relative
  | .undefined _ => .absent

/-- The length of an instruction in bytes (R90, R93). -/
def Instr.length (i : Instr) : Nat := i.mode.length

end Sys2Proof
end

