-- ==== Sys2Proof/WellFormed.lean ====
section
/-! DEFINITION. Which instruction terms are instructions of the hardware. Every operand type has exactly the width
its format gives it (R91), so the one check is that the byte of `undefined` is an undefined byte (R95). -/

namespace Sys2Proof

/-- The 105 undefined opcode bytes, as R95 lists them. -/
def undefinedBytes : List Byte :=
  [0x02#8, 0x03#8, 0x04#8, 0x07#8, 0x0B#8, 0x0C#8, 0x0F#8, 0x12#8, 0x13#8, 0x14#8, 0x17#8, 0x1A#8, 0x1B#8, 0x1C#8, 0x1F#8] ++
  [0x22#8, 0x23#8, 0x27#8, 0x2B#8, 0x2F#8, 0x32#8, 0x33#8, 0x34#8, 0x37#8, 0x3A#8, 0x3B#8, 0x3C#8, 0x3F#8, 0x42#8, 0x43#8] ++
  [0x44#8, 0x47#8, 0x4B#8, 0x4F#8, 0x52#8, 0x53#8, 0x54#8, 0x57#8, 0x5A#8, 0x5B#8, 0x5C#8, 0x5F#8, 0x62#8, 0x63#8, 0x64#8] ++
  [0x67#8, 0x6B#8, 0x6F#8, 0x72#8, 0x73#8, 0x74#8, 0x77#8, 0x7A#8, 0x7B#8, 0x7C#8, 0x7F#8, 0x80#8, 0x82#8, 0x83#8, 0x87#8] ++
  [0x89#8, 0x8B#8, 0x8F#8, 0x92#8, 0x93#8, 0x97#8, 0x9B#8, 0x9C#8, 0x9E#8, 0x9F#8, 0xA3#8, 0xA7#8, 0xAB#8, 0xAF#8, 0xB2#8] ++
  [0xB3#8, 0xB7#8, 0xBB#8, 0xBF#8, 0xC2#8, 0xC3#8, 0xC7#8, 0xCB#8, 0xCF#8, 0xD2#8, 0xD3#8, 0xD4#8, 0xD7#8, 0xDA#8, 0xDB#8] ++
  [0xDC#8, 0xDF#8, 0xE2#8, 0xE3#8, 0xE7#8, 0xEB#8, 0xEF#8, 0xF2#8, 0xF3#8, 0xF4#8, 0xF7#8, 0xFA#8, 0xFB#8, 0xFC#8, 0xFF#8]

/-- The byte is one of the 105 (R95). -/
def isUndefinedByte (op : Byte) : Bool := undefinedBytes.contains op

/-- The instruction is one of the opcode table's: `undefined` carries an undefined byte (R95); every other
term has exactly the operand bytes of its format (R91). -/
def Instr.wellFormed : Instr → Bool
  | .undefined op => isUndefinedByte op
  | .ldaImmediate _ | .ldaZeroPage _ | .ldaZeroPageX _ | .ldaAbsolute _ | .ldaAbsoluteX _ | .ldaAbsoluteY _
  | .ldaIndirectX _ | .ldaIndirectY _ | .ldxImmediate _ | .ldxZeroPage _ | .ldxZeroPageY _ | .ldxAbsolute _
  | .ldxAbsoluteY _ | .ldyImmediate _ | .ldyZeroPage _ | .ldyZeroPageX _ | .ldyAbsolute _ | .ldyAbsoluteX _
  | .staZeroPage _ | .staZeroPageX _ | .staAbsolute _ | .staAbsoluteX _ | .staAbsoluteY _ | .staIndirectX _
  | .staIndirectY _ | .stxZeroPage _ | .stxZeroPageY _ | .stxAbsolute _ | .styZeroPage _ | .styZeroPageX _
  | .styAbsolute _ | .tax | .tay | .txa | .tya | .tsx | .txs | .adcImmediate _ | .adcZeroPage _
  | .adcZeroPageX _ | .adcAbsolute _ | .adcAbsoluteX _ | .adcAbsoluteY _ | .adcIndirectX _
  | .adcIndirectY _ | .sbcImmediate _ | .sbcZeroPage _ | .sbcZeroPageX _ | .sbcAbsolute _ | .sbcAbsoluteX _
  | .sbcAbsoluteY _ | .sbcIndirectX _ | .sbcIndirectY _ | .andImmediate _ | .andZeroPage _
  | .andZeroPageX _ | .andAbsolute _ | .andAbsoluteX _ | .andAbsoluteY _ | .andIndirectX _
  | .andIndirectY _ | .oraImmediate _ | .oraZeroPage _ | .oraZeroPageX _ | .oraAbsolute _ | .oraAbsoluteX _
  | .oraAbsoluteY _ | .oraIndirectX _ | .oraIndirectY _ | .eorImmediate _ | .eorZeroPage _
  | .eorZeroPageX _ | .eorAbsolute _ | .eorAbsoluteX _ | .eorAbsoluteY _ | .eorIndirectX _
  | .eorIndirectY _ | .cmpImmediate _ | .cmpZeroPage _ | .cmpZeroPageX _ | .cmpAbsolute _ | .cmpAbsoluteX _
  | .cmpAbsoluteY _ | .cmpIndirectX _ | .cmpIndirectY _ | .cpxImmediate _ | .cpxZeroPage _ | .cpxAbsolute _
  | .cpyImmediate _ | .cpyZeroPage _ | .cpyAbsolute _ | .bitZeroPage _ | .bitAbsolute _ | .incZeroPage _
  | .incZeroPageX _ | .incAbsolute _ | .incAbsoluteX _ | .decZeroPage _ | .decZeroPageX _ | .decAbsolute _
  | .decAbsoluteX _ | .inx | .iny | .dex | .dey | .aslAccumulator | .aslZeroPage _ | .aslZeroPageX _
  | .aslAbsolute _ | .aslAbsoluteX _ | .lsrAccumulator | .lsrZeroPage _ | .lsrZeroPageX _ | .lsrAbsolute _
  | .lsrAbsoluteX _ | .rolAccumulator | .rolZeroPage _ | .rolZeroPageX _ | .rolAbsolute _ | .rolAbsoluteX _
  | .rorAccumulator | .rorZeroPage _ | .rorZeroPageX _ | .rorAbsolute _ | .rorAbsoluteX _ | .bcc _ | .bcs _
  | .beq _ | .bne _ | .bmi _ | .bpl _ | .bvc _ | .bvs _ | .jmpAbsolute _ | .jmpIndirect _ | .jsr _ | .rts
  | .rti | .brk | .pha | .php | .pla | .plp | .clc | .cld | .cli | .clv | .sec | .sed | .sei | .nop => true

end Sys2Proof
end

