-- ==== Sys2Proof/Decode.lean ====
section
/-! DEFINITION. The dispatch table (30_encoding.md R94; R250), the decoder over bytes, and the encoder. -/

namespace Sys2Proof

/-! ## Byte order (R62, R92): a 16-bit operand is little-endian -/

/-- `(hi << 8) | lo` (R8, R92). -/
def word (lo hi : Byte) : Addr := (hi.setWidth 16 <<< 8) ||| lo.setWidth 16

/-- `w[7:0]`. -/
def loByte (w : Addr) : Byte := w.setWidth 8

/-- `w[15:8]`. -/
def hiByte (w : Addr) : Byte := (w >>> 8).setWidth 8

/-! ## The dispatch table -/

/-- An entry of the dispatch table (R250): absent, or an instruction with 0, 1 or 2 operand bytes (R90). -/
inductive Entry
  | absent
  | op0 (i : Instr)
  | op1 (f : Byte → Instr)
  | op2 (f : Addr → Instr)

/-- Row 0 of the opcode map (R94): the bytes $00 to $0F. -/
def dispatchRow0 : List Entry :=
  [.op0 .brk, .op1 .oraIndirectX, .absent, .absent,
   .absent, .op1 .oraZeroPage, .op1 .aslZeroPage, .absent,
   .op0 .php, .op1 .oraImmediate, .op0 .aslAccumulator, .absent,
   .absent, .op2 .oraAbsolute, .op2 .aslAbsolute, .absent]

/-- Row 1 of the opcode map (R94): the bytes $10 to $1F. -/
def dispatchRow1 : List Entry :=
  [.op1 .bpl, .op1 .oraIndirectY, .absent, .absent,
   .absent, .op1 .oraZeroPageX, .op1 .aslZeroPageX, .absent,
   .op0 .clc, .op2 .oraAbsoluteY, .absent, .absent,
   .absent, .op2 .oraAbsoluteX, .op2 .aslAbsoluteX, .absent]

/-- Row 2 of the opcode map (R94): the bytes $20 to $2F. -/
def dispatchRow2 : List Entry :=
  [.op2 .jsr, .op1 .andIndirectX, .absent, .absent,
   .op1 .bitZeroPage, .op1 .andZeroPage, .op1 .rolZeroPage, .absent,
   .op0 .plp, .op1 .andImmediate, .op0 .rolAccumulator, .absent,
   .op2 .bitAbsolute, .op2 .andAbsolute, .op2 .rolAbsolute, .absent]

/-- Row 3 of the opcode map (R94): the bytes $30 to $3F. -/
def dispatchRow3 : List Entry :=
  [.op1 .bmi, .op1 .andIndirectY, .absent, .absent,
   .absent, .op1 .andZeroPageX, .op1 .rolZeroPageX, .absent,
   .op0 .sec, .op2 .andAbsoluteY, .absent, .absent,
   .absent, .op2 .andAbsoluteX, .op2 .rolAbsoluteX, .absent]

/-- Row 4 of the opcode map (R94): the bytes $40 to $4F. -/
def dispatchRow4 : List Entry :=
  [.op0 .rti, .op1 .eorIndirectX, .absent, .absent,
   .absent, .op1 .eorZeroPage, .op1 .lsrZeroPage, .absent,
   .op0 .pha, .op1 .eorImmediate, .op0 .lsrAccumulator, .absent,
   .op2 .jmpAbsolute, .op2 .eorAbsolute, .op2 .lsrAbsolute, .absent]

/-- Row 5 of the opcode map (R94): the bytes $50 to $5F. -/
def dispatchRow5 : List Entry :=
  [.op1 .bvc, .op1 .eorIndirectY, .absent, .absent,
   .absent, .op1 .eorZeroPageX, .op1 .lsrZeroPageX, .absent,
   .op0 .cli, .op2 .eorAbsoluteY, .absent, .absent,
   .absent, .op2 .eorAbsoluteX, .op2 .lsrAbsoluteX, .absent]

/-- Row 6 of the opcode map (R94): the bytes $60 to $6F. -/
def dispatchRow6 : List Entry :=
  [.op0 .rts, .op1 .adcIndirectX, .absent, .absent,
   .absent, .op1 .adcZeroPage, .op1 .rorZeroPage, .absent,
   .op0 .pla, .op1 .adcImmediate, .op0 .rorAccumulator, .absent,
   .op2 .jmpIndirect, .op2 .adcAbsolute, .op2 .rorAbsolute, .absent]

/-- Row 7 of the opcode map (R94): the bytes $70 to $7F. -/
def dispatchRow7 : List Entry :=
  [.op1 .bvs, .op1 .adcIndirectY, .absent, .absent,
   .absent, .op1 .adcZeroPageX, .op1 .rorZeroPageX, .absent,
   .op0 .sei, .op2 .adcAbsoluteY, .absent, .absent,
   .absent, .op2 .adcAbsoluteX, .op2 .rorAbsoluteX, .absent]

/-- Row 8 of the opcode map (R94): the bytes $80 to $8F. -/
def dispatchRow8 : List Entry :=
  [.absent, .op1 .staIndirectX, .absent, .absent,
   .op1 .styZeroPage, .op1 .staZeroPage, .op1 .stxZeroPage, .absent,
   .op0 .dey, .absent, .op0 .txa, .absent,
   .op2 .styAbsolute, .op2 .staAbsolute, .op2 .stxAbsolute, .absent]

/-- Row 9 of the opcode map (R94): the bytes $90 to $9F. -/
def dispatchRow9 : List Entry :=
  [.op1 .bcc, .op1 .staIndirectY, .absent, .absent,
   .op1 .styZeroPageX, .op1 .staZeroPageX, .op1 .stxZeroPageY, .absent,
   .op0 .tya, .op2 .staAbsoluteY, .op0 .txs, .absent,
   .absent, .op2 .staAbsoluteX, .absent, .absent]

/-- Row A of the opcode map (R94): the bytes $A0 to $AF. -/
def dispatchRowA : List Entry :=
  [.op1 .ldyImmediate, .op1 .ldaIndirectX, .op1 .ldxImmediate, .absent,
   .op1 .ldyZeroPage, .op1 .ldaZeroPage, .op1 .ldxZeroPage, .absent,
   .op0 .tay, .op1 .ldaImmediate, .op0 .tax, .absent,
   .op2 .ldyAbsolute, .op2 .ldaAbsolute, .op2 .ldxAbsolute, .absent]

/-- Row B of the opcode map (R94): the bytes $B0 to $BF. -/
def dispatchRowB : List Entry :=
  [.op1 .bcs, .op1 .ldaIndirectY, .absent, .absent,
   .op1 .ldyZeroPageX, .op1 .ldaZeroPageX, .op1 .ldxZeroPageY, .absent,
   .op0 .clv, .op2 .ldaAbsoluteY, .op0 .tsx, .absent,
   .op2 .ldyAbsoluteX, .op2 .ldaAbsoluteX, .op2 .ldxAbsoluteY, .absent]

/-- Row C of the opcode map (R94): the bytes $C0 to $CF. -/
def dispatchRowC : List Entry :=
  [.op1 .cpyImmediate, .op1 .cmpIndirectX, .absent, .absent,
   .op1 .cpyZeroPage, .op1 .cmpZeroPage, .op1 .decZeroPage, .absent,
   .op0 .iny, .op1 .cmpImmediate, .op0 .dex, .absent,
   .op2 .cpyAbsolute, .op2 .cmpAbsolute, .op2 .decAbsolute, .absent]

/-- Row D of the opcode map (R94): the bytes $D0 to $DF. -/
def dispatchRowD : List Entry :=
  [.op1 .bne, .op1 .cmpIndirectY, .absent, .absent,
   .absent, .op1 .cmpZeroPageX, .op1 .decZeroPageX, .absent,
   .op0 .cld, .op2 .cmpAbsoluteY, .absent, .absent,
   .absent, .op2 .cmpAbsoluteX, .op2 .decAbsoluteX, .absent]

/-- Row E of the opcode map (R94): the bytes $E0 to $EF. -/
def dispatchRowE : List Entry :=
  [.op1 .cpxImmediate, .op1 .sbcIndirectX, .absent, .absent,
   .op1 .cpxZeroPage, .op1 .sbcZeroPage, .op1 .incZeroPage, .absent,
   .op0 .inx, .op1 .sbcImmediate, .op0 .nop, .absent,
   .op2 .cpxAbsolute, .op2 .sbcAbsolute, .op2 .incAbsolute, .absent]

/-- Row F of the opcode map (R94): the bytes $F0 to $FF. -/
def dispatchRowF : List Entry :=
  [.op1 .beq, .op1 .sbcIndirectY, .absent, .absent,
   .absent, .op1 .sbcZeroPageX, .op1 .incZeroPageX, .absent,
   .op0 .sed, .op2 .sbcAbsoluteY, .absent, .absent,
   .absent, .op2 .sbcAbsoluteX, .op2 .incAbsoluteX, .absent]

/-- The dispatch table: the entry of every byte value, in order (R94, R250). -/
def dispatchTable : List Entry :=
  dispatchRow0 ++ dispatchRow1 ++ dispatchRow2 ++ dispatchRow3 ++ dispatchRow4 ++ dispatchRow5 ++ dispatchRow6 ++
  dispatchRow7 ++ dispatchRow8 ++ dispatchRow9 ++ dispatchRowA ++ dispatchRowB ++ dispatchRowC ++ dispatchRowD ++
  dispatchRowE ++ dispatchRowF

/-- `Dispatch[op]` (R250): total over the 256 byte values. -/
def dispatch (op : Byte) : Entry := dispatchTable.getD op.toNat .absent

/-! ## Decoding -/

/-- Why a list of bytes holds no instruction. The machine never meets it: it fetches as many bytes as it needs. -/
inductive DecodeError
  /-- There is no byte. -/
  | noOpcode
  /-- The opcode byte takes more operand bytes than follow it (R91). -/
  | missingOperand (op : Byte)
  deriving DecidableEq, Repr

/-- The instruction of an entry, from the operand bytes that follow, and the bytes left over. An absent entry
consumes the opcode byte alone (R93, R96). -/
def decodeEntry (b0 : Byte) : Entry → List Byte → Except DecodeError (Instr × List Byte)
  | .absent, rest => .ok (.undefined b0, rest)
  | .op0 i, rest => .ok (i, rest)
  | .op1 f, b1 :: rest => .ok (f b1, rest)
  | .op2 f, b1 :: b2 :: rest => .ok (f (word b1 b2), rest)
  | .op1 _, [] => .error (.missingOperand b0)
  | .op2 _, [] => .error (.missingOperand b0)
  | .op2 _, [_] => .error (.missingOperand b0)

/-- Decoding, total on any bytes: the instruction they begin with and the rest, or why there is none. -/
def decode : List Byte → Except DecodeError (Instr × List Byte)
  | [] => .error .noOpcode
  | b0 :: rest => decodeEntry b0 (dispatch b0) rest

/-- The instruction of an opcode byte and the two bytes after it, of which it takes as many as its mode
says (R92, R93). This is what the machine fetches. -/
def decodeWindow (b0 b1 b2 : Byte) : Instr :=
  match dispatch b0 with
  | .absent => .undefined b0
  | .op0 i => i
  | .op1 f => f b1
  | .op2 f => f (word b1 b2)

/-- The bytes of an instruction whose bits are `w` in the opcode table's numbering: bit 0 is the least bit of
the first byte; the bits from `nbits` up are 0, to the longest instruction's three bytes. -/
def tableBytes (nbits w : Nat) : List Byte :=
  let v := w % 2 ^ nbits
  [BitVec.ofNat 8 v, BitVec.ofNat 8 (v / 256), BitVec.ofNat 8 (v / 65536)]

/-- What the decoder reads from an instruction word of the opcode table. -/
def decodeTableWord (nbits w : Nat) : Option Instr :=
  match decode (tableBytes nbits w) with
  | .ok (i, _) => some i
  | .error _ => none

/-! ## Encoding -/

/-- The bytes of an instruction: the opcode byte (R94, by mnemonic), then its operand bytes, low byte first (R91). -/
def encode : Instr → List Byte
  | .ldaImmediate v => [0xA9#8, v]
  | .ldaZeroPage z => [0xA5#8, z]
  | .ldaZeroPageX z => [0xB5#8, z]
  | .ldaAbsolute w => [0xAD#8, loByte w, hiByte w]
  | .ldaAbsoluteX w => [0xBD#8, loByte w, hiByte w]
  | .ldaAbsoluteY w => [0xB9#8, loByte w, hiByte w]
  | .ldaIndirectX z => [0xA1#8, z]
  | .ldaIndirectY z => [0xB1#8, z]
  | .ldxImmediate v => [0xA2#8, v]
  | .ldxZeroPage z => [0xA6#8, z]
  | .ldxZeroPageY z => [0xB6#8, z]
  | .ldxAbsolute w => [0xAE#8, loByte w, hiByte w]
  | .ldxAbsoluteY w => [0xBE#8, loByte w, hiByte w]
  | .ldyImmediate v => [0xA0#8, v]
  | .ldyZeroPage z => [0xA4#8, z]
  | .ldyZeroPageX z => [0xB4#8, z]
  | .ldyAbsolute w => [0xAC#8, loByte w, hiByte w]
  | .ldyAbsoluteX w => [0xBC#8, loByte w, hiByte w]
  | .staZeroPage z => [0x85#8, z]
  | .staZeroPageX z => [0x95#8, z]
  | .staAbsolute w => [0x8D#8, loByte w, hiByte w]
  | .staAbsoluteX w => [0x9D#8, loByte w, hiByte w]
  | .staAbsoluteY w => [0x99#8, loByte w, hiByte w]
  | .staIndirectX z => [0x81#8, z]
  | .staIndirectY z => [0x91#8, z]
  | .stxZeroPage z => [0x86#8, z]
  | .stxZeroPageY z => [0x96#8, z]
  | .stxAbsolute w => [0x8E#8, loByte w, hiByte w]
  | .styZeroPage z => [0x84#8, z]
  | .styZeroPageX z => [0x94#8, z]
  | .styAbsolute w => [0x8C#8, loByte w, hiByte w]
  | .tax => [0xAA#8]
  | .tay => [0xA8#8]
  | .txa => [0x8A#8]
  | .tya => [0x98#8]
  | .tsx => [0xBA#8]
  | .txs => [0x9A#8]
  | .adcImmediate v => [0x69#8, v]
  | .adcZeroPage z => [0x65#8, z]
  | .adcZeroPageX z => [0x75#8, z]
  | .adcAbsolute w => [0x6D#8, loByte w, hiByte w]
  | .adcAbsoluteX w => [0x7D#8, loByte w, hiByte w]
  | .adcAbsoluteY w => [0x79#8, loByte w, hiByte w]
  | .adcIndirectX z => [0x61#8, z]
  | .adcIndirectY z => [0x71#8, z]
  | .sbcImmediate v => [0xE9#8, v]
  | .sbcZeroPage z => [0xE5#8, z]
  | .sbcZeroPageX z => [0xF5#8, z]
  | .sbcAbsolute w => [0xED#8, loByte w, hiByte w]
  | .sbcAbsoluteX w => [0xFD#8, loByte w, hiByte w]
  | .sbcAbsoluteY w => [0xF9#8, loByte w, hiByte w]
  | .sbcIndirectX z => [0xE1#8, z]
  | .sbcIndirectY z => [0xF1#8, z]
  | .andImmediate v => [0x29#8, v]
  | .andZeroPage z => [0x25#8, z]
  | .andZeroPageX z => [0x35#8, z]
  | .andAbsolute w => [0x2D#8, loByte w, hiByte w]
  | .andAbsoluteX w => [0x3D#8, loByte w, hiByte w]
  | .andAbsoluteY w => [0x39#8, loByte w, hiByte w]
  | .andIndirectX z => [0x21#8, z]
  | .andIndirectY z => [0x31#8, z]
  | .oraImmediate v => [0x09#8, v]
  | .oraZeroPage z => [0x05#8, z]
  | .oraZeroPageX z => [0x15#8, z]
  | .oraAbsolute w => [0x0D#8, loByte w, hiByte w]
  | .oraAbsoluteX w => [0x1D#8, loByte w, hiByte w]
  | .oraAbsoluteY w => [0x19#8, loByte w, hiByte w]
  | .oraIndirectX z => [0x01#8, z]
  | .oraIndirectY z => [0x11#8, z]
  | .eorImmediate v => [0x49#8, v]
  | .eorZeroPage z => [0x45#8, z]
  | .eorZeroPageX z => [0x55#8, z]
  | .eorAbsolute w => [0x4D#8, loByte w, hiByte w]
  | .eorAbsoluteX w => [0x5D#8, loByte w, hiByte w]
  | .eorAbsoluteY w => [0x59#8, loByte w, hiByte w]
  | .eorIndirectX z => [0x41#8, z]
  | .eorIndirectY z => [0x51#8, z]
  | .cmpImmediate v => [0xC9#8, v]
  | .cmpZeroPage z => [0xC5#8, z]
  | .cmpZeroPageX z => [0xD5#8, z]
  | .cmpAbsolute w => [0xCD#8, loByte w, hiByte w]
  | .cmpAbsoluteX w => [0xDD#8, loByte w, hiByte w]
  | .cmpAbsoluteY w => [0xD9#8, loByte w, hiByte w]
  | .cmpIndirectX z => [0xC1#8, z]
  | .cmpIndirectY z => [0xD1#8, z]
  | .cpxImmediate v => [0xE0#8, v]
  | .cpxZeroPage z => [0xE4#8, z]
  | .cpxAbsolute w => [0xEC#8, loByte w, hiByte w]
  | .cpyImmediate v => [0xC0#8, v]
  | .cpyZeroPage z => [0xC4#8, z]
  | .cpyAbsolute w => [0xCC#8, loByte w, hiByte w]
  | .bitZeroPage z => [0x24#8, z]
  | .bitAbsolute w => [0x2C#8, loByte w, hiByte w]
  | .incZeroPage z => [0xE6#8, z]
  | .incZeroPageX z => [0xF6#8, z]
  | .incAbsolute w => [0xEE#8, loByte w, hiByte w]
  | .incAbsoluteX w => [0xFE#8, loByte w, hiByte w]
  | .decZeroPage z => [0xC6#8, z]
  | .decZeroPageX z => [0xD6#8, z]
  | .decAbsolute w => [0xCE#8, loByte w, hiByte w]
  | .decAbsoluteX w => [0xDE#8, loByte w, hiByte w]
  | .inx => [0xE8#8]
  | .iny => [0xC8#8]
  | .dex => [0xCA#8]
  | .dey => [0x88#8]
  | .aslAccumulator => [0x0A#8]
  | .aslZeroPage z => [0x06#8, z]
  | .aslZeroPageX z => [0x16#8, z]
  | .aslAbsolute w => [0x0E#8, loByte w, hiByte w]
  | .aslAbsoluteX w => [0x1E#8, loByte w, hiByte w]
  | .lsrAccumulator => [0x4A#8]
  | .lsrZeroPage z => [0x46#8, z]
  | .lsrZeroPageX z => [0x56#8, z]
  | .lsrAbsolute w => [0x4E#8, loByte w, hiByte w]
  | .lsrAbsoluteX w => [0x5E#8, loByte w, hiByte w]
  | .rolAccumulator => [0x2A#8]
  | .rolZeroPage z => [0x26#8, z]
  | .rolZeroPageX z => [0x36#8, z]
  | .rolAbsolute w => [0x2E#8, loByte w, hiByte w]
  | .rolAbsoluteX w => [0x3E#8, loByte w, hiByte w]
  | .rorAccumulator => [0x6A#8]
  | .rorZeroPage z => [0x66#8, z]
  | .rorZeroPageX z => [0x76#8, z]
  | .rorAbsolute w => [0x6E#8, loByte w, hiByte w]
  | .rorAbsoluteX w => [0x7E#8, loByte w, hiByte w]
  | .bcc d => [0x90#8, d]
  | .bcs d => [0xB0#8, d]
  | .beq d => [0xF0#8, d]
  | .bne d => [0xD0#8, d]
  | .bmi d => [0x30#8, d]
  | .bpl d => [0x10#8, d]
  | .bvc d => [0x50#8, d]
  | .bvs d => [0x70#8, d]
  | .jmpAbsolute w => [0x4C#8, loByte w, hiByte w]
  | .jmpIndirect w => [0x6C#8, loByte w, hiByte w]
  | .jsr w => [0x20#8, loByte w, hiByte w]
  | .rts => [0x60#8]
  | .rti => [0x40#8]
  | .brk => [0x00#8]
  | .pha => [0x48#8]
  | .php => [0x08#8]
  | .pla => [0x68#8]
  | .plp => [0x28#8]
  | .clc => [0x18#8]
  | .cld => [0xD8#8]
  | .cli => [0x58#8]
  | .clv => [0xB8#8]
  | .sec => [0x38#8]
  | .sed => [0xF8#8]
  | .sei => [0x78#8]
  | .nop => [0xEA#8]
  | .undefined op => [op]

end Sys2Proof
end

