-- ==== Sys2Proof/Config.lean ====
section
/-! DEFINITION. The parameters of the core that the spec names (00_scope.md R7, 92_eei_decisions.md D5, D8,
D10), and the one function it leaves unstated. `BatchSize` (R7, D21) is an argument of `Machine.runBatch`. -/

namespace Sys2Proof

/-- `JmpIndirectReading` (R7, R130, D5): what the operand of `JMP (addr)` names. -/
inductive JmpIndirectReading
  /-- The default: the target is the byte stored at the operand address, zero-extended. -/
  | byteAtPointer
  /-- The target is the operand address itself. -/
  | pointerItself
  /-- The target is the little-endian word at the operand address, with 16-bit wrap and no page bug. -/
  | wordAtPointer
  deriving DecidableEq, Repr

/-- `PhpBreakBit` (R7, R27, D8): bit 4 of the byte PHP pushes. -/
inductive PhpBreakBit
  /-- The default: the stored flag B. -/
  | stored
  /-- Always 1. -/
  | alwaysOne
  deriving DecidableEq, Repr

/-- `OverflowFn` (R7, R170, D10): the function that computes V for ADC and SBC. The parameter ranges over
functions; as plain data it is a choice between the standard one and an unstated one (log entry 2). -/
inductive OverflowFn
  /-- The default: two's-complement overflow, the formulas of R171 and R172. -/
  | standard
  /-- Some other function of the operands and the result: `Config.adcOverflow` and `Config.sbcOverflow`. -/
  | unstated
  deriving DecidableEq, Repr

/-- The V that an unstated `OverflowFn` gives ADC from (a, m, u8(r)): a free value, about which nothing
can be proved (R171: `OverflowFn.adc(a, m, u8(r))`; log entry 2). -/
opaque Config.adcOverflow : Byte → Byte → Byte → Bool

/-- The V that an unstated `OverflowFn` gives SBC from (a, m, u8(r)): a free value (R172; log entry 2). -/
opaque Config.sbcOverflow : Byte → Byte → Byte → Bool

/-- The parameters of one machine. R20 makes them arguments of the step; they ride in the state because the
step takes nothing else, and nothing ever writes them (log entry 1). -/
structure Params where
  jmpIndirectReading : JmpIndirectReading
  phpBreakBit : PhpBreakBit
  overflowFn : OverflowFn
  deriving DecidableEq, Repr

/-- The default of every parameter (the "default" column of R7). -/
def Params.default : Params :=
  { jmpIndirectReading := .byteAtPointer, phpBreakBit := .stored, overflowFn := .standard }

end Sys2Proof
end

