-- ==== Sys2Proof/Machine/State.lean ====
section
/-! DEFINITION. The state of the core (10_state.md R20), its reset value (R41), and the ways a step or a host
request can stop. -/

namespace Sys2Proof.Machine

/-- `LoopState` (R38): decides whether the execution loop executes instructions (R255, R256). -/
inductive LoopState
  | idle
  | running
  | paused
  | halted
  deriving DecidableEq, Repr

/-- One decode diagnostic (R40): the address of an unrecognised opcode byte, and that byte. -/
structure DiagEntry where
  addr : Addr
  op : Byte
  deriving DecidableEq, Repr

/-- `Mem` (R37): the cells that differ from what reset leaves ($00), by strictly rising address.
The form is `Memory.wf`, the accesses are `Memory.read` and `Memory.write` (Machine/Ops.lean). -/
abbrev Memory := List Host.Cell

/-- The state of the core: exactly the pieces R20 lists, and the machine's parameters beside them. The
reserved status bit is hardwired to 1 (R36), so it has no field: `packP` produces it. -/
structure State where
  /-- The accumulator A (R21). -/
  a : Byte
  /-- The index register X (R22). -/
  x : Byte
  /-- The index register Y (R23). -/
  y : Byte
  /-- The program counter PC (R25). -/
  pc : Addr
  /-- The stack pointer SP, an offset into page 1 (R26). -/
  sp : Byte
  /-- Negative (R29). -/
  n : Bool
  /-- Overflow (R30). -/
  v : Bool
  /-- Break: a stored flag, which halts the loop at the next boundary (R31, R258). -/
  b : Bool
  /-- Decimal: stored only (R32, R186). -/
  d : Bool
  /-- Interrupt-disable: stored only (R33). -/
  i : Bool
  /-- Zero (R34). -/
  z : Bool
  /-- Carry (R35). -/
  c : Bool
  /-- The 65 536-byte memory (R37). -/
  mem : Memory
  /-- The state of the execution loop (R38). -/
  loopState : LoopState
  /-- The host's pause request (R39). -/
  pauseReq : Bool
  /-- The decode-diagnostic log, oldest entry first (R40). -/
  diagLog : List DiagEntry
  /-- The MODEL's own field: the parameters of R7, constant through every run (log entry 1). -/
  params : Params
  deriving DecidableEq, Repr

/-- The state reset leaves (R41, R300), which is also the state at creation (R42): every field has the
value the spec gives it, memory is all $00 (nothing listed), and the parameters have their defaults (R7). -/
def State.reset : State :=
  { a := 0x00#8, x := 0x00#8, y := 0x00#8, pc := 0x0000#16, sp := 0xFF#8
    n := false, v := false, b := false, d := false, i := false, z := false, c := false
    mem := [], loopState := .idle, pauseReq := false, diagLog := [], params := .default }

/-- The core has no fault: "A fault state does not exist in the core, because every admitted state has a
defined next state" (R280). So there is no constructor, nothing raises one, and there is no safety question. -/
inductive Fault
  deriving DecidableEq, Repr

/-- Why a step or a host request is refused. Only host requests are (R13 `Refuse(reason)`); no instruction is. -/
inductive Refusal
  /-- `exec` answers it for an instruction that has no meaning yet; safe. Every instruction has one. -/
  | notModelled (mnemonic : String)
  /-- The host request `run()` made while Running (R257, D17); safe: the spec refuses it too. -/
  | runWhileRunning
  /-- The host request `step()` made while Running (R260, D18); safe: the spec refuses it too. -/
  | stepWhileRunning
  /-- The host request `burn` made while Running (R266, D23); safe: the spec refuses it too. -/
  | burnWhileRunning
  /-- The host request `burn` of bytes that pass $FFFF (R266, D23); safe: the spec refuses it too. -/
  | burnOutOfRange
  deriving DecidableEq, Repr

/-- What a meaning, a step or a host request answers. -/
abbrev Result := Host.Outcome State Fault Refusal

end Sys2Proof.Machine
end

