-- ==== Sys2Proof/Machine/Ops.lean ====
section
/-! DEFINITION. The named operations over memory, the stack and the program counter (20_memory.md, 00_scope.md
R9 and R11), and the decode diagnostic, which is all the core has in the place of taking an exception (60_exceptions.md
R280, R285: trap entry does not exist). -/

namespace Sys2Proof.Machine

/-! ## Widths (R9) -/

/-- `zext_16`: the 16-bit value equal to the byte (R9). -/
def zext16 (v : Byte) : Addr := v.setWidth 16

/-- `sext_16`: bits 15..8 repeat bit 7 of the byte (R9). -/
def sext16 (v : Byte) : Addr := v.signExtend 16

/-! ## Memory (R11, R37, R60 to R64) -/

/-- What an address that is not listed reads as: the $00 that reset writes everywhere (R41, "memory zeroed"). -/
def Memory.unlisted : Byte := 0x00#8

/-- The listed cells rise strictly from `lo`, lie below 65 536, and hold no unlisted value. -/
def Memory.wfFrom : Nat → Memory → Bool
  | _, [] => true
  | lo, (k, v) :: m =>
    decide (lo ≤ k) && decide (k < 65536) && decide (v ≠ Memory.unlisted) && Memory.wfFrom (k + 1) m

/-- The canonical form of a memory: equal memories are equal lists. -/
def Memory.wf (m : Memory) : Bool := Memory.wfFrom 0 m

/-- The byte the list gives at key `k`. -/
def Memory.readCell : Memory → Nat → Byte
  | [], _ => Memory.unlisted
  | (k', v) :: m, k => if k = k' then v else Memory.readCell m k

/-- The list with `v` at key `k`, in canonical form: the unlisted value takes the entry out. -/
def Memory.writeCell : Memory → Nat → Byte → Memory
  | [], k, v => if v = Memory.unlisted then [] else [(k, v)]
  | (k', v') :: m, k, v =>
    if k < k' then (if v = Memory.unlisted then (k', v') :: m else (k, v) :: (k', v') :: m)
    else if k = k' then (if v = Memory.unlisted then m else (k, v) :: m)
    else (k', v') :: Memory.writeCell m k v

/-- `MemRead(addr, 1)` (R11): reading has no side effect (R64) and never faults (R76). -/
def Memory.read (m : Memory) (addr : Addr) : Byte := Memory.readCell m addr.toNat

/-- `MemWrite(addr, 1, v)` (R11): changes only the addressed byte (R64) and never faults (R76). -/
def Memory.write (m : Memory) (addr : Addr) (v : Byte) : Memory := Memory.writeCell m addr.toNat v

/-- `ReadLE16(a)` (R61): low byte at `a`, high byte at `a + 1`, which wraps modulo 2^16 (R69). -/
def Memory.readLE16 (m : Memory) (addr : Addr) : Addr := word (m.read addr) (m.read (addr + 1#16))

/-- `ReadZP16(z)` (R61): low byte at `z`, high byte at `(z + 1) & $FF`, which wraps in the zero page (D6). -/
def Memory.readZP16 (m : Memory) (p : Byte) : Addr := word (m.read (zext16 p)) (m.read (zext16 (p + 1#8)))

/-- `for i: MemWrite(L + i, 1, bytes[i])`, the loop of `burn` (R266). -/
def Memory.writeBytes : Memory → Addr → List Byte → Memory
  | m, _, [] => m
  | m, addr, v :: vs => Memory.writeBytes (m.write addr v) (addr + 1#16) vs

/-! ## Program counter (R11, R25) -/

/-- PC past the `len` bytes of an instruction, as its fetches leave it (R25); it wraps modulo 2^16 (R69). -/
def State.advance (s : State) (len : Addr) : State := { s with pc := s.pc + len }

/-! ## Stack (R66, R67, R68) -/

/-- The address of the stack slot an SP value names: `$0100 + SP`, always in page 1 (R26, R68). -/
def stackAddr (sp : Byte) : Addr := 0x0100#16 + zext16 sp

/-- `Push(v)` (R66): writes at `$0100 + SP`, then decrements SP modulo 256 (R68). -/
def State.push (s : State) (v : Byte) : State :=
  { s with mem := s.mem.write (stackAddr s.sp) v, sp := s.sp - 1#8 }

/-- The state `Pull()` leaves (R67): SP incremented modulo 256 (R68). -/
def State.pulled (s : State) : State := { s with sp := s.sp + 1#8 }

/-- The byte `Pull()` returns (R67): the one at `$0100 + SP` after the increment. -/
def State.pullByte (s : State) : Byte := s.mem.read (stackAddr (s.sp + 1#8))

/-! ## Decode diagnostic (R253) -/

/-- `Diagnose(a, op)` (R253): appends to DiagLog and changes nothing else. -/
def State.diagnose (s : State) (addr : Addr) (op : Byte) : State :=
  { s with diagLog := s.diagLog ++ [{ addr := addr, op := op }] }

end Sys2Proof.Machine
end

