-- ==== Sys2Proof/Machine/Flags.lean ====
section
/-! DEFINITION. Every flag computation of the spec: SetNZ (00_scope.md R12), the carries and overflows of ADC and SBC
and the comparison (42_arithmetic_logic.md R170 to R172, R176), and packing the status register (10_state.md R27, R28). -/

namespace Sys2Proof.Machine

/-- `SetNZ(r)` (R12): N is the high bit of the result, Z says that it is zero. -/
def State.setNZ (s : State) (r : Byte) : State := { s with n := r.msb, z := decide (r = 0x00#8) }

/-! ## Add and subtract: exact integers first, then narrowing (R8, R170) -/

/-- `r <- a + m + C`, an integer 0..511 (R171). -/
def adcSum (a m : Byte) (c : Bool) : Nat := a.toNat + m.toNat + c.toNat

/-- `C <- (r > $FF ? 1 : 0)` (R171). -/
def adcCarry (a m : Byte) (c : Bool) : Bool := decide (adcSum a m c > 0xFF)

/-- `u8(r)` of ADC (R171). -/
def adcResult (a m : Byte) (c : Bool) : Byte := BitVec.ofNat 8 (adcSum a m c)

/-- `OverflowFn.adc(a, m, u8(r))` (R171): the standard formula, or the unstated function (D10). -/
def adcOverflow (f : OverflowFn) (a m r : Byte) : Bool :=
  match f with
  | .standard => decide (((a ^^^ r) &&& (m ^^^ r) &&& 0x80#8) ≠ 0x00#8)
  | .unstated => Config.adcOverflow a m r

/-- `r <- a - m - (1 - C)`, an integer -256..255 (R172). -/
def sbcDiff (a m : Byte) (c : Bool) : Int := (a.toNat : Int) - (m.toNat : Int) - (1 - (c.toNat : Int))

/-- `C <- (r >= 0 ? 1 : 0)`: 1 means no borrow (R172). -/
def sbcCarry (a m : Byte) (c : Bool) : Bool := decide (sbcDiff a m c ≥ 0)

/-- `u8(r)` of SBC (R172). -/
def sbcResult (a m : Byte) (c : Bool) : Byte := BitVec.ofInt 8 (sbcDiff a m c)

/-- `OverflowFn.sbc(a, m, u8(r))` (R172): the standard formula, or the unstated function (D10). -/
def sbcOverflow (f : OverflowFn) (a m r : Byte) : Bool :=
  match f with
  | .standard => decide (((a ^^^ m) &&& (a ^^^ r) &&& 0x80#8) ≠ 0x00#8)
  | .unstated => Config.sbcOverflow a m r

/-- The flags of CMP, CPX and CPY (R176): C is the unsigned `reg >= m`, Z is equality, N is bit 7 of `u8(reg - m)`. -/
def State.compare (s : State) (reg m : Byte) : State :=
  { s with c := decide (reg.toNat ≥ m.toNat), z := decide (reg = m), n := (reg - m).msb }

/-! ## The status register as a byte (R27, R28, R36) -/

/-- `Bpush` (R27, D8). -/
def pushedBreak (s : State) : Bool :=
  match s.params.phpBreakBit with
  | .stored => s.b
  | .alwaysOne => true

/-- A flag shifted to bit `k` of a byte: `(f << k)`. -/
def flagAt (f : Bool) (k : Nat) : Byte := (BitVec.ofBool f).setWidth 8 <<< k

/-- `PackP()` (R27): N V 1 B D I Z C from bit 7 to bit 0; bit 5 is the reserved bit, always 1 (R36). -/
def packP (s : State) : Byte :=
  flagAt s.n 7 ||| flagAt s.v 6 ||| flagAt true 5 ||| flagAt (pushedBreak s) 4 |||
    flagAt s.d 3 ||| flagAt s.i 2 ||| flagAt s.z 1 ||| flagAt s.c 0

/-- `UnpackP(v)` (R28): writes all seven flags and ignores bit 5. Setting B this way halts the loop at the
next boundary, as BRK does (R28, R258). -/
def State.unpackP (s : State) (p : Byte) : State :=
  { s with
    n := p.getLsbD 7, v := p.getLsbD 6, b := p.getLsbD 4, d := p.getLsbD 3
    i := p.getLsbD 2, z := p.getLsbD 1, c := p.getLsbD 0 }

end Sys2Proof.Machine
end

