-- ==== Sys2Proof/Machine/Operands.lean ====
section
/-! DEFINITION. The resolvers of 40_addressing_modes.md. Implied has no operand (R121). Relative hands its
displacement byte to the branch (R133): `State.branch` in Machine/Control.lean. The other modes are here. The kinds of R120 are
types, so that `ReadOperand` and `WriteOperand` meet only the kinds the spec applies them to. -/

namespace Sys2Proof.Machine

/-- A memory operand: one of the eight modes that resolve to `MemOperand(ea)` (R120), with its operand bytes. -/
inductive MemOperand
  | zeroPage (z : Byte)
  | zeroPageX (z : Byte)
  | zeroPageY (z : Byte)
  | absolute (w : Addr)
  | absoluteX (w : Addr)
  | absoluteY (w : Addr)
  | indirectX (z : Byte)
  | indirectY (z : Byte)
  deriving DecidableEq, Repr

/-- An operand that is read only: Immediate (R123) or memory. -/
inductive Source
  | immediate (v : Byte)
  | memory (m : MemOperand)
  deriving DecidableEq, Repr

/-- An operand that is read and written: Accumulator (R122) or memory. -/
inductive Place
  | accumulator
  | memory (m : MemOperand)
  deriving DecidableEq, Repr

/-- The length of an instruction with this memory operand: the opcode and its operand bytes (R91, R134). -/
def MemOperand.length : MemOperand → Addr
  | .zeroPage _ | .zeroPageX _ | .zeroPageY _ | .indirectX _ | .indirectY _ => 2#16
  | .absolute _ | .absoluteX _ | .absoluteY _ => 3#16

/-- The length of an instruction with this source: Immediate consumes one operand byte (R123). -/
def Source.length : Source → Addr
  | .immediate _ => 2#16
  | .memory m => m.length

/-- The length of an instruction with this operand: Accumulator consumes no operand byte (R122, C2). -/
def Place.length : Place → Addr
  | .accumulator => 1#16
  | .memory m => m.length

/-- The effective address (R124 to R129, R131, R132; summary R134). Zero-page sums wrap modulo 2^8 and
16-bit sums modulo 2^16 (R69). -/
def effectiveAddress (s : State) : MemOperand → Addr
  | .zeroPage z => zext16 z
  | .zeroPageX z => zext16 (z + s.x)
  | .zeroPageY z => zext16 (z + s.y)
  | .absolute w => w
  | .absoluteX w => w + zext16 s.x
  | .absoluteY w => w + zext16 s.y
  | .indirectX z => s.mem.readZP16 (z + s.x)
  | .indirectY z => s.mem.readZP16 z + zext16 s.y

/-- `ReadOperand(MemOperand(ea))` (R120). -/
def readMem (s : State) (m : MemOperand) : Byte := s.mem.read (effectiveAddress s m)

/-- `WriteOperand(MemOperand(ea), v)` (R120). -/
def writeMem (s : State) (m : MemOperand) (v : Byte) : State :=
  { s with mem := s.mem.write (effectiveAddress s m) v }

/-- `ReadOperand(o)` of a source (R120). -/
def readSource (s : State) : Source → Byte
  | .immediate v => v
  | .memory m => readMem s m

/-- `ReadOperand(o)` of a read-modify-write operand (R120). -/
def readPlace (s : State) : Place → Byte
  | .accumulator => s.a
  | .memory m => readMem s m

/-- `WriteOperand(o, v)` (R120): to A, or to the effective address. -/
def writePlace (s : State) : Place → Byte → State
  | .accumulator, v => { s with a := v }
  | .memory m, v => writeMem s m v

/-- The target the Indirect resolver returns (R130, D5), under each reading of the pointer operand. -/
def indirectTarget (s : State) (ptr : Addr) : Addr :=
  match s.params.jmpIndirectReading with
  | .byteAtPointer => zext16 (s.mem.read ptr)
  | .pointerItself => ptr
  | .wordAtPointer => s.mem.readLE16 ptr

end Sys2Proof.Machine
end

