-- ==== Sys2Proof/Machine/Arithmetic.lean ====
section
/-! DEFINITION. Arithmetic, logic, comparison, bit test, increment and decrement (42_arithmetic_logic.md R170 to R186). No
function here reads the decimal flag (R186). -/

namespace Sys2Proof.Machine

/-! ## Semantic functions -/

/-- ADC (R171): C, then V, then A, then N and Z, all from the operands read first. -/
def State.semAdc (s : State) (o : Source) : State :=
  let m := readSource s o
  let r := adcResult s.a m s.c
  { s.advance o.length with
    c := adcCarry s.a m s.c, v := adcOverflow s.params.overflowFn s.a m r, a := r }.setNZ r

/-- SBC (R172). -/
def State.semSbc (s : State) (o : Source) : State :=
  let m := readSource s o
  let r := sbcResult s.a m s.c
  { s.advance o.length with
    c := sbcCarry s.a m s.c, v := sbcOverflow s.params.overflowFn s.a m r, a := r }.setNZ r

/-- AND (R173). -/
def State.semAnd (s : State) (o : Source) : State :=
  let r := s.a &&& readSource s o
  { s.advance o.length with a := r }.setNZ r

/-- ORA (R174). -/
def State.semOra (s : State) (o : Source) : State :=
  let r := s.a ||| readSource s o
  { s.advance o.length with a := r }.setNZ r

/-- EOR (R175). -/
def State.semEor (s : State) (o : Source) : State :=
  let r := s.a ^^^ readSource s o
  { s.advance o.length with a := r }.setNZ r

/-- CMP (R176). -/
def State.semCmp (s : State) (o : Source) : State := (s.advance o.length).compare s.a (readSource s o)

/-- CPX (R177). -/
def State.semCpx (s : State) (o : Source) : State := (s.advance o.length).compare s.x (readSource s o)

/-- CPY (R178). -/
def State.semCpy (s : State) (o : Source) : State := (s.advance o.length).compare s.y (readSource s o)

/-- BIT (R179): Z from `A & m`, N and V from the operand's bits 7 and 6. -/
def State.semBit (s : State) (m : MemOperand) : State :=
  let v := readMem s m
  { s.advance m.length with z := decide ((s.a &&& v) = 0x00#8), n := v.getLsbD 7, v := v.getLsbD 6 }

/-- INC (R180): one read, then one write, at the same effective address. -/
def State.semInc (s : State) (m : MemOperand) : State :=
  let v := readMem s m + 1#8
  (writeMem (s.advance m.length) m v).setNZ v

/-- DEC (R181). -/
def State.semDec (s : State) (m : MemOperand) : State :=
  let v := readMem s m - 1#8
  (writeMem (s.advance m.length) m v).setNZ v

/-- INX (R182). -/
def State.semInx (s : State) : State := { s.advance 1#16 with x := s.x + 1#8 }.setNZ (s.x + 1#8)

/-- INY (R183). -/
def State.semIny (s : State) : State := { s.advance 1#16 with y := s.y + 1#8 }.setNZ (s.y + 1#8)

/-- DEX (R184). -/
def State.semDex (s : State) : State := { s.advance 1#16 with x := s.x - 1#8 }.setNZ (s.x - 1#8)

/-- DEY (R185). -/
def State.semDey (s : State) : State := { s.advance 1#16 with y := s.y - 1#8 }.setNZ (s.y - 1#8)

/-! ## Meanings -/

/-- $69: ADC (R171), Immediate (R123). -/
def execAdcImmediate (v : Byte) (s : State) : Result := .next (s.semAdc (.immediate v))

/-- $65: ADC (R171), ZeroPage (R124). -/
def execAdcZeroPage (z : Byte) (s : State) : Result := .next (s.semAdc (.memory (.zeroPage z)))

/-- $75: ADC (R171), ZeroPageX (R125). -/
def execAdcZeroPageX (z : Byte) (s : State) : Result := .next (s.semAdc (.memory (.zeroPageX z)))

/-- $6D: ADC (R171), Absolute (R127). -/
def execAdcAbsolute (w : Addr) (s : State) : Result := .next (s.semAdc (.memory (.absolute w)))

/-- $7D: ADC (R171), AbsoluteX (R128). -/
def execAdcAbsoluteX (w : Addr) (s : State) : Result := .next (s.semAdc (.memory (.absoluteX w)))

/-- $79: ADC (R171), AbsoluteY (R129). -/
def execAdcAbsoluteY (w : Addr) (s : State) : Result := .next (s.semAdc (.memory (.absoluteY w)))

/-- $61: ADC (R171), IndirectX (R131). -/
def execAdcIndirectX (z : Byte) (s : State) : Result := .next (s.semAdc (.memory (.indirectX z)))

/-- $71: ADC (R171), IndirectY (R132). -/
def execAdcIndirectY (z : Byte) (s : State) : Result := .next (s.semAdc (.memory (.indirectY z)))

/-- $E9: SBC (R172), Immediate (R123). -/
def execSbcImmediate (v : Byte) (s : State) : Result := .next (s.semSbc (.immediate v))

/-- $E5: SBC (R172), ZeroPage (R124). -/
def execSbcZeroPage (z : Byte) (s : State) : Result := .next (s.semSbc (.memory (.zeroPage z)))

/-- $F5: SBC (R172), ZeroPageX (R125). -/
def execSbcZeroPageX (z : Byte) (s : State) : Result := .next (s.semSbc (.memory (.zeroPageX z)))

/-- $ED: SBC (R172), Absolute (R127). -/
def execSbcAbsolute (w : Addr) (s : State) : Result := .next (s.semSbc (.memory (.absolute w)))

/-- $FD: SBC (R172), AbsoluteX (R128). -/
def execSbcAbsoluteX (w : Addr) (s : State) : Result := .next (s.semSbc (.memory (.absoluteX w)))

/-- $F9: SBC (R172), AbsoluteY (R129). -/
def execSbcAbsoluteY (w : Addr) (s : State) : Result := .next (s.semSbc (.memory (.absoluteY w)))

/-- $E1: SBC (R172), IndirectX (R131). -/
def execSbcIndirectX (z : Byte) (s : State) : Result := .next (s.semSbc (.memory (.indirectX z)))

/-- $F1: SBC (R172), IndirectY (R132). -/
def execSbcIndirectY (z : Byte) (s : State) : Result := .next (s.semSbc (.memory (.indirectY z)))

/-- $29: AND (R173), Immediate (R123). -/
def execAndImmediate (v : Byte) (s : State) : Result := .next (s.semAnd (.immediate v))

/-- $25: AND (R173), ZeroPage (R124). -/
def execAndZeroPage (z : Byte) (s : State) : Result := .next (s.semAnd (.memory (.zeroPage z)))

/-- $35: AND (R173), ZeroPageX (R125). -/
def execAndZeroPageX (z : Byte) (s : State) : Result := .next (s.semAnd (.memory (.zeroPageX z)))

/-- $2D: AND (R173), Absolute (R127). -/
def execAndAbsolute (w : Addr) (s : State) : Result := .next (s.semAnd (.memory (.absolute w)))

/-- $3D: AND (R173), AbsoluteX (R128). -/
def execAndAbsoluteX (w : Addr) (s : State) : Result := .next (s.semAnd (.memory (.absoluteX w)))

/-- $39: AND (R173), AbsoluteY (R129). -/
def execAndAbsoluteY (w : Addr) (s : State) : Result := .next (s.semAnd (.memory (.absoluteY w)))

/-- $21: AND (R173), IndirectX (R131). -/
def execAndIndirectX (z : Byte) (s : State) : Result := .next (s.semAnd (.memory (.indirectX z)))

/-- $31: AND (R173), IndirectY (R132). -/
def execAndIndirectY (z : Byte) (s : State) : Result := .next (s.semAnd (.memory (.indirectY z)))

/-- $09: ORA (R174), Immediate (R123). -/
def execOraImmediate (v : Byte) (s : State) : Result := .next (s.semOra (.immediate v))

/-- $05: ORA (R174), ZeroPage (R124). -/
def execOraZeroPage (z : Byte) (s : State) : Result := .next (s.semOra (.memory (.zeroPage z)))

/-- $15: ORA (R174), ZeroPageX (R125). -/
def execOraZeroPageX (z : Byte) (s : State) : Result := .next (s.semOra (.memory (.zeroPageX z)))

/-- $0D: ORA (R174), Absolute (R127). -/
def execOraAbsolute (w : Addr) (s : State) : Result := .next (s.semOra (.memory (.absolute w)))

/-- $1D: ORA (R174), AbsoluteX (R128). -/
def execOraAbsoluteX (w : Addr) (s : State) : Result := .next (s.semOra (.memory (.absoluteX w)))

/-- $19: ORA (R174), AbsoluteY (R129). -/
def execOraAbsoluteY (w : Addr) (s : State) : Result := .next (s.semOra (.memory (.absoluteY w)))

/-- $01: ORA (R174), IndirectX (R131). -/
def execOraIndirectX (z : Byte) (s : State) : Result := .next (s.semOra (.memory (.indirectX z)))

/-- $11: ORA (R174), IndirectY (R132). -/
def execOraIndirectY (z : Byte) (s : State) : Result := .next (s.semOra (.memory (.indirectY z)))

/-- $49: EOR (R175), Immediate (R123). -/
def execEorImmediate (v : Byte) (s : State) : Result := .next (s.semEor (.immediate v))

/-- $45: EOR (R175), ZeroPage (R124). -/
def execEorZeroPage (z : Byte) (s : State) : Result := .next (s.semEor (.memory (.zeroPage z)))

/-- $55: EOR (R175), ZeroPageX (R125). -/
def execEorZeroPageX (z : Byte) (s : State) : Result := .next (s.semEor (.memory (.zeroPageX z)))

/-- $4D: EOR (R175), Absolute (R127). -/
def execEorAbsolute (w : Addr) (s : State) : Result := .next (s.semEor (.memory (.absolute w)))

/-- $5D: EOR (R175), AbsoluteX (R128). -/
def execEorAbsoluteX (w : Addr) (s : State) : Result := .next (s.semEor (.memory (.absoluteX w)))

/-- $59: EOR (R175), AbsoluteY (R129). -/
def execEorAbsoluteY (w : Addr) (s : State) : Result := .next (s.semEor (.memory (.absoluteY w)))

/-- $41: EOR (R175), IndirectX (R131). -/
def execEorIndirectX (z : Byte) (s : State) : Result := .next (s.semEor (.memory (.indirectX z)))

/-- $51: EOR (R175), IndirectY (R132). -/
def execEorIndirectY (z : Byte) (s : State) : Result := .next (s.semEor (.memory (.indirectY z)))

/-- $C9: CMP (R176), Immediate (R123). -/
def execCmpImmediate (v : Byte) (s : State) : Result := .next (s.semCmp (.immediate v))

/-- $C5: CMP (R176), ZeroPage (R124). -/
def execCmpZeroPage (z : Byte) (s : State) : Result := .next (s.semCmp (.memory (.zeroPage z)))

/-- $D5: CMP (R176), ZeroPageX (R125). -/
def execCmpZeroPageX (z : Byte) (s : State) : Result := .next (s.semCmp (.memory (.zeroPageX z)))

/-- $CD: CMP (R176), Absolute (R127). -/
def execCmpAbsolute (w : Addr) (s : State) : Result := .next (s.semCmp (.memory (.absolute w)))

/-- $DD: CMP (R176), AbsoluteX (R128). -/
def execCmpAbsoluteX (w : Addr) (s : State) : Result := .next (s.semCmp (.memory (.absoluteX w)))

/-- $D9: CMP (R176), AbsoluteY (R129). -/
def execCmpAbsoluteY (w : Addr) (s : State) : Result := .next (s.semCmp (.memory (.absoluteY w)))

/-- $C1: CMP (R176), IndirectX (R131). -/
def execCmpIndirectX (z : Byte) (s : State) : Result := .next (s.semCmp (.memory (.indirectX z)))

/-- $D1: CMP (R176), IndirectY (R132). -/
def execCmpIndirectY (z : Byte) (s : State) : Result := .next (s.semCmp (.memory (.indirectY z)))

/-- $E0: CPX (R177), Immediate (R123). -/
def execCpxImmediate (v : Byte) (s : State) : Result := .next (s.semCpx (.immediate v))

/-- $E4: CPX (R177), ZeroPage (R124). -/
def execCpxZeroPage (z : Byte) (s : State) : Result := .next (s.semCpx (.memory (.zeroPage z)))

/-- $EC: CPX (R177), Absolute (R127). -/
def execCpxAbsolute (w : Addr) (s : State) : Result := .next (s.semCpx (.memory (.absolute w)))

/-- $C0: CPY (R178), Immediate (R123). -/
def execCpyImmediate (v : Byte) (s : State) : Result := .next (s.semCpy (.immediate v))

/-- $C4: CPY (R178), ZeroPage (R124). -/
def execCpyZeroPage (z : Byte) (s : State) : Result := .next (s.semCpy (.memory (.zeroPage z)))

/-- $CC: CPY (R178), Absolute (R127). -/
def execCpyAbsolute (w : Addr) (s : State) : Result := .next (s.semCpy (.memory (.absolute w)))

/-- $24: BIT (R179), ZeroPage (R124). -/
def execBitZeroPage (z : Byte) (s : State) : Result := .next (s.semBit (.zeroPage z))

/-- $2C: BIT (R179), Absolute (R127). -/
def execBitAbsolute (w : Addr) (s : State) : Result := .next (s.semBit (.absolute w))

/-- $E6: INC (R180), ZeroPage (R124). -/
def execIncZeroPage (z : Byte) (s : State) : Result := .next (s.semInc (.zeroPage z))

/-- $F6: INC (R180), ZeroPageX (R125). -/
def execIncZeroPageX (z : Byte) (s : State) : Result := .next (s.semInc (.zeroPageX z))

/-- $EE: INC (R180), Absolute (R127). -/
def execIncAbsolute (w : Addr) (s : State) : Result := .next (s.semInc (.absolute w))

/-- $FE: INC (R180), AbsoluteX (R128). -/
def execIncAbsoluteX (w : Addr) (s : State) : Result := .next (s.semInc (.absoluteX w))

/-- $C6: DEC (R181), ZeroPage (R124). -/
def execDecZeroPage (z : Byte) (s : State) : Result := .next (s.semDec (.zeroPage z))

/-- $D6: DEC (R181), ZeroPageX (R125). -/
def execDecZeroPageX (z : Byte) (s : State) : Result := .next (s.semDec (.zeroPageX z))

/-- $CE: DEC (R181), Absolute (R127). -/
def execDecAbsolute (w : Addr) (s : State) : Result := .next (s.semDec (.absolute w))

/-- $DE: DEC (R181), AbsoluteX (R128). -/
def execDecAbsoluteX (w : Addr) (s : State) : Result := .next (s.semDec (.absoluteX w))

/-- $E8: INX (R182), Implied (R121). -/
def execInx (s : State) : Result := .next s.semInx

/-- $C8: INY (R183), Implied (R121). -/
def execIny (s : State) : Result := .next s.semIny

/-- $CA: DEX (R184), Implied (R121). -/
def execDex (s : State) : Result := .next s.semDex

/-- $88: DEY (R185), Implied (R121). -/
def execDey (s : State) : Result := .next s.semDey

end Sys2Proof.Machine
end

