-- ==== Sys2Proof/Machine/Control.lean ====
section
/-! DEFINITION. Control transfer (44_control_transfer.md R210 to R225): branches, jumps, subroutine call and return, the
return from an interrupt frame, and BRK, which only sets the Break flag (R224, R282). -/

namespace Sys2Proof.Machine

/-! ## Semantic functions -/

/-- The common branch rule (R210): `after` is the address of the byte after the branch, and the displacement,
the byte the decoder took from the address after the opcode, is sign-extended and added to it (R133, C6). -/
def State.branch (s : State) (cond : Bool) (d : Byte) : State :=
  let after := s.pc + 2#16
  { s with pc := if cond then after + sext16 d else after }

/-- BCC (R211). -/
def State.semBcc (s : State) (d : Byte) : State := s.branch (!s.c) d

/-- BCS (R212). -/
def State.semBcs (s : State) (d : Byte) : State := s.branch s.c d

/-- BEQ (R213). -/
def State.semBeq (s : State) (d : Byte) : State := s.branch s.z d

/-- BNE (R214). -/
def State.semBne (s : State) (d : Byte) : State := s.branch (!s.z) d

/-- BMI (R215). -/
def State.semBmi (s : State) (d : Byte) : State := s.branch s.n d

/-- BPL (R216). -/
def State.semBpl (s : State) (d : Byte) : State := s.branch (!s.n) d

/-- BVC (R217). -/
def State.semBvc (s : State) (d : Byte) : State := s.branch (!s.v) d

/-- BVS (R218). -/
def State.semBvs (s : State) (d : Byte) : State := s.branch s.v d

/-- JMP absolute (R219): memory at the target is not read. -/
def State.semJmpAbsolute (s : State) (w : Addr) : State := { s with pc := w }

/-- JMP indirect (R220), the target by the parameter `JmpIndirectReading` (R130). -/
def State.semJmpIndirect (s : State) (w : Addr) : State := { s with pc := indirectTarget s w }

/-- JSR (R221): pushes the address of its own last byte, high byte first, then jumps. -/
def State.semJsr (s : State) (w : Addr) : State :=
  let ret := (s.advance 3#16).pc - 1#16
  { (s.push (hiByte ret)).push (loByte ret) with pc := w }

/-- RTS (R222): pulls the low byte, then the high byte, and adds 1. -/
def State.semRts (s : State) : State :=
  let s1 := s.pulled
  { s1.pulled with pc := word s.pullByte s1.pullByte + 1#16 }

/-- RTI (R223): pulls the status, then the low and the high byte of PC; nothing is added. This is the core's
return from an exception, though nothing ever enters one (R286). -/
def State.semRti (s : State) : State :=
  let s1 := s.pulled.unpackP s.pullByte
  let s2 := s1.pulled
  { s2.pulled with pc := word s1.pullByte s2.pullByte }

/-- BRK (R224): sets B; nothing is pushed, I is unchanged, no vector is read. -/
def State.semBrk (s : State) : State := { s.advance 1#16 with b := true }

/-! ## Meanings -/

/-- $90: BCC (R211), Relative (R133). -/
def execBcc (d : Byte) (s : State) : Result := .next (s.semBcc d)

/-- $B0: BCS (R212), Relative (R133). -/
def execBcs (d : Byte) (s : State) : Result := .next (s.semBcs d)

/-- $F0: BEQ (R213), Relative (R133). -/
def execBeq (d : Byte) (s : State) : Result := .next (s.semBeq d)

/-- $D0: BNE (R214), Relative (R133). -/
def execBne (d : Byte) (s : State) : Result := .next (s.semBne d)

/-- $30: BMI (R215), Relative (R133). -/
def execBmi (d : Byte) (s : State) : Result := .next (s.semBmi d)

/-- $10: BPL (R216), Relative (R133). -/
def execBpl (d : Byte) (s : State) : Result := .next (s.semBpl d)

/-- $50: BVC (R217), Relative (R133). -/
def execBvc (d : Byte) (s : State) : Result := .next (s.semBvc d)

/-- $70: BVS (R218), Relative (R133). -/
def execBvs (d : Byte) (s : State) : Result := .next (s.semBvs d)

/-- $4C: JMP (R219), Absolute (R127). -/
def execJmpAbsolute (w : Addr) (s : State) : Result := .next (s.semJmpAbsolute w)

/-- $6C: JMP (R220), Indirect (R130). -/
def execJmpIndirect (w : Addr) (s : State) : Result := .next (s.semJmpIndirect w)

/-- $20: JSR (R221), Absolute (R127). -/
def execJsr (w : Addr) (s : State) : Result := .next (s.semJsr w)

/-- $60: RTS (R222), Implied (R121). -/
def execRts (s : State) : Result := .next s.semRts

/-- $40: RTI (R223), Implied (R121). -/
def execRti (s : State) : Result := .next s.semRti

/-- $00: BRK (R224), Implied (R121). -/
def execBrk (s : State) : Result := .next s.semBrk

end Sys2Proof.Machine
end

