-- ==== Sys2Proof/Machine/LoadStore.lean ====
section
/-! DEFINITION. Loads, stores and register transfers (41_load_store_transfer.md R150 to R161): the semantic function of
each mnemonic, then the meaning of each opcode, which is that function on the operand of its mode. -/

namespace Sys2Proof.Machine

/-! ## Semantic functions -/

/-- LDA (R150). -/
def State.semLda (s : State) (o : Source) : State :=
  let v := readSource s o
  { s.advance o.length with a := v }.setNZ v

/-- LDX (R151). -/
def State.semLdx (s : State) (o : Source) : State :=
  let v := readSource s o
  { s.advance o.length with x := v }.setNZ v

/-- LDY (R152). -/
def State.semLdy (s : State) (o : Source) : State :=
  let v := readSource s o
  { s.advance o.length with y := v }.setNZ v

/-- STA (R153): the destination is not read first, and no flag is written. -/
def State.semSta (s : State) (m : MemOperand) : State := writeMem (s.advance m.length) m s.a

/-- STX (R154). -/
def State.semStx (s : State) (m : MemOperand) : State := writeMem (s.advance m.length) m s.x

/-- STY (R155). -/
def State.semSty (s : State) (m : MemOperand) : State := writeMem (s.advance m.length) m s.y

/-- TAX (R156). -/
def State.semTax (s : State) : State := { s.advance 1#16 with x := s.a }.setNZ s.a

/-- TAY (R157). -/
def State.semTay (s : State) : State := { s.advance 1#16 with y := s.a }.setNZ s.a

/-- TXA (R158). -/
def State.semTxa (s : State) : State := { s.advance 1#16 with a := s.x }.setNZ s.x

/-- TYA (R159). -/
def State.semTya (s : State) : State := { s.advance 1#16 with a := s.y }.setNZ s.y

/-- TSX (R160). -/
def State.semTsx (s : State) : State := { s.advance 1#16 with x := s.sp }.setNZ s.sp

/-- TXS (R161): the only transfer that writes no flag. -/
def State.semTxs (s : State) : State := { s.advance 1#16 with sp := s.x }

/-! ## Meanings -/

/-- $A9: LDA (R150), Immediate (R123). -/
def execLdaImmediate (v : Byte) (s : State) : Result := .next (s.semLda (.immediate v))

/-- $A5: LDA (R150), ZeroPage (R124). -/
def execLdaZeroPage (z : Byte) (s : State) : Result := .next (s.semLda (.memory (.zeroPage z)))

/-- $B5: LDA (R150), ZeroPageX (R125). -/
def execLdaZeroPageX (z : Byte) (s : State) : Result := .next (s.semLda (.memory (.zeroPageX z)))

/-- $AD: LDA (R150), Absolute (R127). -/
def execLdaAbsolute (w : Addr) (s : State) : Result := .next (s.semLda (.memory (.absolute w)))

/-- $BD: LDA (R150), AbsoluteX (R128). -/
def execLdaAbsoluteX (w : Addr) (s : State) : Result := .next (s.semLda (.memory (.absoluteX w)))

/-- $B9: LDA (R150), AbsoluteY (R129). -/
def execLdaAbsoluteY (w : Addr) (s : State) : Result := .next (s.semLda (.memory (.absoluteY w)))

/-- $A1: LDA (R150), IndirectX (R131). -/
def execLdaIndirectX (z : Byte) (s : State) : Result := .next (s.semLda (.memory (.indirectX z)))

/-- $B1: LDA (R150), IndirectY (R132). -/
def execLdaIndirectY (z : Byte) (s : State) : Result := .next (s.semLda (.memory (.indirectY z)))

/-- $A2: LDX (R151), Immediate (R123). -/
def execLdxImmediate (v : Byte) (s : State) : Result := .next (s.semLdx (.immediate v))

/-- $A6: LDX (R151), ZeroPage (R124). -/
def execLdxZeroPage (z : Byte) (s : State) : Result := .next (s.semLdx (.memory (.zeroPage z)))

/-- $B6: LDX (R151), ZeroPageY (R126). -/
def execLdxZeroPageY (z : Byte) (s : State) : Result := .next (s.semLdx (.memory (.zeroPageY z)))

/-- $AE: LDX (R151), Absolute (R127). -/
def execLdxAbsolute (w : Addr) (s : State) : Result := .next (s.semLdx (.memory (.absolute w)))

/-- $BE: LDX (R151), AbsoluteY (R129). -/
def execLdxAbsoluteY (w : Addr) (s : State) : Result := .next (s.semLdx (.memory (.absoluteY w)))

/-- $A0: LDY (R152), Immediate (R123). -/
def execLdyImmediate (v : Byte) (s : State) : Result := .next (s.semLdy (.immediate v))

/-- $A4: LDY (R152), ZeroPage (R124). -/
def execLdyZeroPage (z : Byte) (s : State) : Result := .next (s.semLdy (.memory (.zeroPage z)))

/-- $B4: LDY (R152), ZeroPageX (R125). -/
def execLdyZeroPageX (z : Byte) (s : State) : Result := .next (s.semLdy (.memory (.zeroPageX z)))

/-- $AC: LDY (R152), Absolute (R127). -/
def execLdyAbsolute (w : Addr) (s : State) : Result := .next (s.semLdy (.memory (.absolute w)))

/-- $BC: LDY (R152), AbsoluteX (R128). -/
def execLdyAbsoluteX (w : Addr) (s : State) : Result := .next (s.semLdy (.memory (.absoluteX w)))

/-- $85: STA (R153), ZeroPage (R124). -/
def execStaZeroPage (z : Byte) (s : State) : Result := .next (s.semSta (.zeroPage z))

/-- $95: STA (R153), ZeroPageX (R125). -/
def execStaZeroPageX (z : Byte) (s : State) : Result := .next (s.semSta (.zeroPageX z))

/-- $8D: STA (R153), Absolute (R127). -/
def execStaAbsolute (w : Addr) (s : State) : Result := .next (s.semSta (.absolute w))

/-- $9D: STA (R153), AbsoluteX (R128). -/
def execStaAbsoluteX (w : Addr) (s : State) : Result := .next (s.semSta (.absoluteX w))

/-- $99: STA (R153), AbsoluteY (R129). -/
def execStaAbsoluteY (w : Addr) (s : State) : Result := .next (s.semSta (.absoluteY w))

/-- $81: STA (R153), IndirectX (R131). -/
def execStaIndirectX (z : Byte) (s : State) : Result := .next (s.semSta (.indirectX z))

/-- $91: STA (R153), IndirectY (R132). -/
def execStaIndirectY (z : Byte) (s : State) : Result := .next (s.semSta (.indirectY z))

/-- $86: STX (R154), ZeroPage (R124). -/
def execStxZeroPage (z : Byte) (s : State) : Result := .next (s.semStx (.zeroPage z))

/-- $96: STX (R154), ZeroPageY (R126). -/
def execStxZeroPageY (z : Byte) (s : State) : Result := .next (s.semStx (.zeroPageY z))

/-- $8E: STX (R154), Absolute (R127). -/
def execStxAbsolute (w : Addr) (s : State) : Result := .next (s.semStx (.absolute w))

/-- $84: STY (R155), ZeroPage (R124). -/
def execStyZeroPage (z : Byte) (s : State) : Result := .next (s.semSty (.zeroPage z))

/-- $94: STY (R155), ZeroPageX (R125). -/
def execStyZeroPageX (z : Byte) (s : State) : Result := .next (s.semSty (.zeroPageX z))

/-- $8C: STY (R155), Absolute (R127). -/
def execStyAbsolute (w : Addr) (s : State) : Result := .next (s.semSty (.absolute w))

/-- $AA: TAX (R156), Implied (R121). -/
def execTax (s : State) : Result := .next s.semTax

/-- $A8: TAY (R157), Implied (R121). -/
def execTay (s : State) : Result := .next s.semTay

/-- $8A: TXA (R158), Implied (R121). -/
def execTxa (s : State) : Result := .next s.semTxa

/-- $98: TYA (R159), Implied (R121). -/
def execTya (s : State) : Result := .next s.semTya

/-- $BA: TSX (R160), Implied (R121). -/
def execTsx (s : State) : Result := .next s.semTsx

/-- $9A: TXS (R161), Implied (R121). -/
def execTxs (s : State) : Result := .next s.semTxs

end Sys2Proof.Machine
end

