-- ==== Sys2Proof/Machine/Shift.lean ====
section
/-! DEFINITION. Shifts and rotates by one bit (43_shift_rotate.md R200 to R204), on A or on memory. The memory forms read
once, then write once, at the same effective address (R70). -/

namespace Sys2Proof.Machine

/-! ## Semantic functions -/

/-- What the four share: the carry, the operand written, then N and Z of the result. -/
def State.shiftTo (s : State) (o : Place) (carry : Bool) (r : Byte) : State :=
  (writePlace { s.advance o.length with c := carry } o r).setNZ r

/-- ASL (R200). -/
def State.semAsl (s : State) (o : Place) : State :=
  let v := readPlace s o
  s.shiftTo o (v.getLsbD 7) (v <<< 1)

/-- LSR (R201). -/
def State.semLsr (s : State) (o : Place) : State :=
  let v := readPlace s o
  s.shiftTo o (v.getLsbD 0) (v >>> 1)

/-- ROL (R202): the old C enters bit 0, the new C is the old bit 7. -/
def State.semRol (s : State) (o : Place) : State :=
  let v := readPlace s o
  s.shiftTo o (v.getLsbD 7) ((v <<< 1) ||| flagAt s.c 0)

/-- ROR (R203): the old C enters bit 7, the new C is the old bit 0. -/
def State.semRor (s : State) (o : Place) : State :=
  let v := readPlace s o
  s.shiftTo o (v.getLsbD 0) ((v >>> 1) ||| flagAt s.c 7)

/-! ## Meanings -/

/-- $0A: ASL (R200), Accumulator (R122). -/
def execAslAccumulator (s : State) : Result := .next (s.semAsl .accumulator)

/-- $06: ASL (R200), ZeroPage (R124). -/
def execAslZeroPage (z : Byte) (s : State) : Result := .next (s.semAsl (.memory (.zeroPage z)))

/-- $16: ASL (R200), ZeroPageX (R125). -/
def execAslZeroPageX (z : Byte) (s : State) : Result := .next (s.semAsl (.memory (.zeroPageX z)))

/-- $0E: ASL (R200), Absolute (R127). -/
def execAslAbsolute (w : Addr) (s : State) : Result := .next (s.semAsl (.memory (.absolute w)))

/-- $1E: ASL (R200), AbsoluteX (R128). -/
def execAslAbsoluteX (w : Addr) (s : State) : Result := .next (s.semAsl (.memory (.absoluteX w)))

/-- $4A: LSR (R201), Accumulator (R122). -/
def execLsrAccumulator (s : State) : Result := .next (s.semLsr .accumulator)

/-- $46: LSR (R201), ZeroPage (R124). -/
def execLsrZeroPage (z : Byte) (s : State) : Result := .next (s.semLsr (.memory (.zeroPage z)))

/-- $56: LSR (R201), ZeroPageX (R125). -/
def execLsrZeroPageX (z : Byte) (s : State) : Result := .next (s.semLsr (.memory (.zeroPageX z)))

/-- $4E: LSR (R201), Absolute (R127). -/
def execLsrAbsolute (w : Addr) (s : State) : Result := .next (s.semLsr (.memory (.absolute w)))

/-- $5E: LSR (R201), AbsoluteX (R128). -/
def execLsrAbsoluteX (w : Addr) (s : State) : Result := .next (s.semLsr (.memory (.absoluteX w)))

/-- $2A: ROL (R202), Accumulator (R122). -/
def execRolAccumulator (s : State) : Result := .next (s.semRol .accumulator)

/-- $26: ROL (R202), ZeroPage (R124). -/
def execRolZeroPage (z : Byte) (s : State) : Result := .next (s.semRol (.memory (.zeroPage z)))

/-- $36: ROL (R202), ZeroPageX (R125). -/
def execRolZeroPageX (z : Byte) (s : State) : Result := .next (s.semRol (.memory (.zeroPageX z)))

/-- $2E: ROL (R202), Absolute (R127). -/
def execRolAbsolute (w : Addr) (s : State) : Result := .next (s.semRol (.memory (.absolute w)))

/-- $3E: ROL (R202), AbsoluteX (R128). -/
def execRolAbsoluteX (w : Addr) (s : State) : Result := .next (s.semRol (.memory (.absoluteX w)))

/-- $6A: ROR (R203), Accumulator (R122). -/
def execRorAccumulator (s : State) : Result := .next (s.semRor .accumulator)

/-- $66: ROR (R203), ZeroPage (R124). -/
def execRorZeroPage (z : Byte) (s : State) : Result := .next (s.semRor (.memory (.zeroPage z)))

/-- $76: ROR (R203), ZeroPageX (R125). -/
def execRorZeroPageX (z : Byte) (s : State) : Result := .next (s.semRor (.memory (.zeroPageX z)))

/-- $6E: ROR (R203), Absolute (R127). -/
def execRorAbsolute (w : Addr) (s : State) : Result := .next (s.semRor (.memory (.absolute w)))

/-- $7E: ROR (R203), AbsoluteX (R128). -/
def execRorAbsoluteX (w : Addr) (s : State) : Result := .next (s.semRor (.memory (.absoluteX w)))

end Sys2Proof.Machine
end

