-- ==== Sys2Proof/Machine/Stack.lean ====
section
/-! DEFINITION. Stack, flag and no-operation instructions (45_stack_flag_misc.md R230 to R241), all one byte long. -/

namespace Sys2Proof.Machine

/-! ## Semantic functions -/

/-- PHA (R230). -/
def State.semPha (s : State) : State := (s.advance 1#16).push s.a

/-- PHP (R231). -/
def State.semPhp (s : State) : State := (s.advance 1#16).push (packP s)

/-- PLA (R232). -/
def State.semPla (s : State) : State :=
  let v := s.pullByte
  { (s.advance 1#16).pulled with a := v }.setNZ v

/-- PLP (R233): a pulled byte with bit 4 set sets B (R28). -/
def State.semPlp (s : State) : State := (s.advance 1#16).pulled.unpackP s.pullByte

/-- CLC (R234). -/
def State.semClc (s : State) : State := { s.advance 1#16 with c := false }

/-- CLD (R235). -/
def State.semCld (s : State) : State := { s.advance 1#16 with d := false }

/-- CLI (R236). -/
def State.semCli (s : State) : State := { s.advance 1#16 with i := false }

/-- CLV (R237). -/
def State.semClv (s : State) : State := { s.advance 1#16 with v := false }

/-- SEC (R238). -/
def State.semSec (s : State) : State := { s.advance 1#16 with c := true }

/-- SED (R239). -/
def State.semSed (s : State) : State := { s.advance 1#16 with d := true }

/-- SEI (R240). -/
def State.semSei (s : State) : State := { s.advance 1#16 with i := true }

/-- NOP (R241). -/
def State.semNop (s : State) : State := s.advance 1#16

/-! ## Meanings -/

/-- $48: PHA (R230), Implied (R121). -/
def execPha (s : State) : Result := .next s.semPha

/-- $08: PHP (R231), Implied (R121). -/
def execPhp (s : State) : Result := .next s.semPhp

/-- $68: PLA (R232), Implied (R121). -/
def execPla (s : State) : Result := .next s.semPla

/-- $28: PLP (R233), Implied (R121). -/
def execPlp (s : State) : Result := .next s.semPlp

/-- $18: CLC (R234), Implied (R121). -/
def execClc (s : State) : Result := .next s.semClc

/-- $D8: CLD (R235), Implied (R121). -/
def execCld (s : State) : Result := .next s.semCld

/-- $58: CLI (R236), Implied (R121). -/
def execCli (s : State) : Result := .next s.semCli

/-- $B8: CLV (R237), Implied (R121). -/
def execClv (s : State) : Result := .next s.semClv

/-- $38: SEC (R238), Implied (R121). -/
def execSec (s : State) : Result := .next s.semSec

/-- $F8: SED (R239), Implied (R121). -/
def execSed (s : State) : Result := .next s.semSed

/-- $78: SEI (R240), Implied (R121). -/
def execSei (s : State) : Result := .next s.semSei

/-- $EA: NOP (R241), Implied (R121). -/
def execNop (s : State) : Result := .next s.semNop

end Sys2Proof.Machine
end

