-- ==== Sys2Proof/Machine/Undefined.lean ====
section
/-! DEFINITION. The undefined opcode bytes (48_dispatch_loop.md R253): neither a trap nor an instruction (R95). -/

namespace Sys2Proof.Machine

/-- The 105 undefined bytes: the diagnostic `(address of the byte, the byte)` is appended to DiagLog, PC ends one
past the byte, and nothing else changes (R251, R253, R281). -/
def execUndefined (op : Byte) (s : State) : Result := .next ((s.advance 1#16).diagnose s.pc op)

end Sys2Proof.Machine
end

