-- ==== Sys2Proof/Machine/Dispatch.lean ====
section
/-! DEFINITION. `exec`: the meaning of every instruction, arm by arm. It is `Resolve(mode)` and `fn(o)` of R252, or the
diagnostic of R253, from the state before the opcode fetch to the next instruction boundary; it never reads `LoopState` (R251). -/

namespace Sys2Proof.Machine

def exec (i : Instr) (s : State) : Host.Outcome State Fault Refusal :=
  match i with
  | .ldaImmediate v => Sys2Proof.Machine.execLdaImmediate v s
  | .ldaZeroPage z => Sys2Proof.Machine.execLdaZeroPage z s
  | .ldaZeroPageX z => Sys2Proof.Machine.execLdaZeroPageX z s
  | .ldaAbsolute w => Sys2Proof.Machine.execLdaAbsolute w s
  | .ldaAbsoluteX w => Sys2Proof.Machine.execLdaAbsoluteX w s
  | .ldaAbsoluteY w => Sys2Proof.Machine.execLdaAbsoluteY w s
  | .ldaIndirectX z => Sys2Proof.Machine.execLdaIndirectX z s
  | .ldaIndirectY z => Sys2Proof.Machine.execLdaIndirectY z s
  | .ldxImmediate v => Sys2Proof.Machine.execLdxImmediate v s
  | .ldxZeroPage z => Sys2Proof.Machine.execLdxZeroPage z s
  | .ldxZeroPageY z => Sys2Proof.Machine.execLdxZeroPageY z s
  | .ldxAbsolute w => Sys2Proof.Machine.execLdxAbsolute w s
  | .ldxAbsoluteY w => Sys2Proof.Machine.execLdxAbsoluteY w s
  | .ldyImmediate v => Sys2Proof.Machine.execLdyImmediate v s
  | .ldyZeroPage z => Sys2Proof.Machine.execLdyZeroPage z s
  | .ldyZeroPageX z => Sys2Proof.Machine.execLdyZeroPageX z s
  | .ldyAbsolute w => Sys2Proof.Machine.execLdyAbsolute w s
  | .ldyAbsoluteX w => Sys2Proof.Machine.execLdyAbsoluteX w s
  | .staZeroPage z => Sys2Proof.Machine.execStaZeroPage z s
  | .staZeroPageX z => Sys2Proof.Machine.execStaZeroPageX z s
  | .staAbsolute w => Sys2Proof.Machine.execStaAbsolute w s
  | .staAbsoluteX w => Sys2Proof.Machine.execStaAbsoluteX w s
  | .staAbsoluteY w => Sys2Proof.Machine.execStaAbsoluteY w s
  | .staIndirectX z => Sys2Proof.Machine.execStaIndirectX z s
  | .staIndirectY z => Sys2Proof.Machine.execStaIndirectY z s
  | .stxZeroPage z => Sys2Proof.Machine.execStxZeroPage z s
  | .stxZeroPageY z => Sys2Proof.Machine.execStxZeroPageY z s
  | .stxAbsolute w => Sys2Proof.Machine.execStxAbsolute w s
  | .styZeroPage z => Sys2Proof.Machine.execStyZeroPage z s
  | .styZeroPageX z => Sys2Proof.Machine.execStyZeroPageX z s
  | .styAbsolute w => Sys2Proof.Machine.execStyAbsolute w s
  | .tax => Sys2Proof.Machine.execTax s
  | .tay => Sys2Proof.Machine.execTay s
  | .txa => Sys2Proof.Machine.execTxa s
  | .tya => Sys2Proof.Machine.execTya s
  | .tsx => Sys2Proof.Machine.execTsx s
  | .txs => Sys2Proof.Machine.execTxs s
  | .adcImmediate v => Sys2Proof.Machine.execAdcImmediate v s
  | .adcZeroPage z => Sys2Proof.Machine.execAdcZeroPage z s
  | .adcZeroPageX z => Sys2Proof.Machine.execAdcZeroPageX z s
  | .adcAbsolute w => Sys2Proof.Machine.execAdcAbsolute w s
  | .adcAbsoluteX w => Sys2Proof.Machine.execAdcAbsoluteX w s
  | .adcAbsoluteY w => Sys2Proof.Machine.execAdcAbsoluteY w s
  | .adcIndirectX z => Sys2Proof.Machine.execAdcIndirectX z s
  | .adcIndirectY z => Sys2Proof.Machine.execAdcIndirectY z s
  | .sbcImmediate v => Sys2Proof.Machine.execSbcImmediate v s
  | .sbcZeroPage z => Sys2Proof.Machine.execSbcZeroPage z s
  | .sbcZeroPageX z => Sys2Proof.Machine.execSbcZeroPageX z s
  | .sbcAbsolute w => Sys2Proof.Machine.execSbcAbsolute w s
  | .sbcAbsoluteX w => Sys2Proof.Machine.execSbcAbsoluteX w s
  | .sbcAbsoluteY w => Sys2Proof.Machine.execSbcAbsoluteY w s
  | .sbcIndirectX z => Sys2Proof.Machine.execSbcIndirectX z s
  | .sbcIndirectY z => Sys2Proof.Machine.execSbcIndirectY z s
  | .andImmediate v => Sys2Proof.Machine.execAndImmediate v s
  | .andZeroPage z => Sys2Proof.Machine.execAndZeroPage z s
  | .andZeroPageX z => Sys2Proof.Machine.execAndZeroPageX z s
  | .andAbsolute w => Sys2Proof.Machine.execAndAbsolute w s
  | .andAbsoluteX w => Sys2Proof.Machine.execAndAbsoluteX w s
  | .andAbsoluteY w => Sys2Proof.Machine.execAndAbsoluteY w s
  | .andIndirectX z => Sys2Proof.Machine.execAndIndirectX z s
  | .andIndirectY z => Sys2Proof.Machine.execAndIndirectY z s
  | .oraImmediate v => Sys2Proof.Machine.execOraImmediate v s
  | .oraZeroPage z => Sys2Proof.Machine.execOraZeroPage z s
  | .oraZeroPageX z => Sys2Proof.Machine.execOraZeroPageX z s
  | .oraAbsolute w => Sys2Proof.Machine.execOraAbsolute w s
  | .oraAbsoluteX w => Sys2Proof.Machine.execOraAbsoluteX w s
  | .oraAbsoluteY w => Sys2Proof.Machine.execOraAbsoluteY w s
  | .oraIndirectX z => Sys2Proof.Machine.execOraIndirectX z s
  | .oraIndirectY z => Sys2Proof.Machine.execOraIndirectY z s
  | .eorImmediate v => Sys2Proof.Machine.execEorImmediate v s
  | .eorZeroPage z => Sys2Proof.Machine.execEorZeroPage z s
  | .eorZeroPageX z => Sys2Proof.Machine.execEorZeroPageX z s
  | .eorAbsolute w => Sys2Proof.Machine.execEorAbsolute w s
  | .eorAbsoluteX w => Sys2Proof.Machine.execEorAbsoluteX w s
  | .eorAbsoluteY w => Sys2Proof.Machine.execEorAbsoluteY w s
  | .eorIndirectX z => Sys2Proof.Machine.execEorIndirectX z s
  | .eorIndirectY z => Sys2Proof.Machine.execEorIndirectY z s
  | .cmpImmediate v => Sys2Proof.Machine.execCmpImmediate v s
  | .cmpZeroPage z => Sys2Proof.Machine.execCmpZeroPage z s
  | .cmpZeroPageX z => Sys2Proof.Machine.execCmpZeroPageX z s
  | .cmpAbsolute w => Sys2Proof.Machine.execCmpAbsolute w s
  | .cmpAbsoluteX w => Sys2Proof.Machine.execCmpAbsoluteX w s
  | .cmpAbsoluteY w => Sys2Proof.Machine.execCmpAbsoluteY w s
  | .cmpIndirectX z => Sys2Proof.Machine.execCmpIndirectX z s
  | .cmpIndirectY z => Sys2Proof.Machine.execCmpIndirectY z s
  | .cpxImmediate v => Sys2Proof.Machine.execCpxImmediate v s
  | .cpxZeroPage z => Sys2Proof.Machine.execCpxZeroPage z s
  | .cpxAbsolute w => Sys2Proof.Machine.execCpxAbsolute w s
  | .cpyImmediate v => Sys2Proof.Machine.execCpyImmediate v s
  | .cpyZeroPage z => Sys2Proof.Machine.execCpyZeroPage z s
  | .cpyAbsolute w => Sys2Proof.Machine.execCpyAbsolute w s
  | .bitZeroPage z => Sys2Proof.Machine.execBitZeroPage z s
  | .bitAbsolute w => Sys2Proof.Machine.execBitAbsolute w s
  | .incZeroPage z => Sys2Proof.Machine.execIncZeroPage z s
  | .incZeroPageX z => Sys2Proof.Machine.execIncZeroPageX z s
  | .incAbsolute w => Sys2Proof.Machine.execIncAbsolute w s
  | .incAbsoluteX w => Sys2Proof.Machine.execIncAbsoluteX w s
  | .decZeroPage z => Sys2Proof.Machine.execDecZeroPage z s
  | .decZeroPageX z => Sys2Proof.Machine.execDecZeroPageX z s
  | .decAbsolute w => Sys2Proof.Machine.execDecAbsolute w s
  | .decAbsoluteX w => Sys2Proof.Machine.execDecAbsoluteX w s
  | .inx => Sys2Proof.Machine.execInx s
  | .iny => Sys2Proof.Machine.execIny s
  | .dex => Sys2Proof.Machine.execDex s
  | .dey => Sys2Proof.Machine.execDey s
  | .aslAccumulator => Sys2Proof.Machine.execAslAccumulator s
  | .aslZeroPage z => Sys2Proof.Machine.execAslZeroPage z s
  | .aslZeroPageX z => Sys2Proof.Machine.execAslZeroPageX z s
  | .aslAbsolute w => Sys2Proof.Machine.execAslAbsolute w s
  | .aslAbsoluteX w => Sys2Proof.Machine.execAslAbsoluteX w s
  | .lsrAccumulator => Sys2Proof.Machine.execLsrAccumulator s
  | .lsrZeroPage z => Sys2Proof.Machine.execLsrZeroPage z s
  | .lsrZeroPageX z => Sys2Proof.Machine.execLsrZeroPageX z s
  | .lsrAbsolute w => Sys2Proof.Machine.execLsrAbsolute w s
  | .lsrAbsoluteX w => Sys2Proof.Machine.execLsrAbsoluteX w s
  | .rolAccumulator => Sys2Proof.Machine.execRolAccumulator s
  | .rolZeroPage z => Sys2Proof.Machine.execRolZeroPage z s
  | .rolZeroPageX z => Sys2Proof.Machine.execRolZeroPageX z s
  | .rolAbsolute w => Sys2Proof.Machine.execRolAbsolute w s
  | .rolAbsoluteX w => Sys2Proof.Machine.execRolAbsoluteX w s
  | .rorAccumulator => Sys2Proof.Machine.execRorAccumulator s
  | .rorZeroPage z => Sys2Proof.Machine.execRorZeroPage z s
  | .rorZeroPageX z => Sys2Proof.Machine.execRorZeroPageX z s
  | .rorAbsolute w => Sys2Proof.Machine.execRorAbsolute w s
  | .rorAbsoluteX w => Sys2Proof.Machine.execRorAbsoluteX w s
  | .bcc d => Sys2Proof.Machine.execBcc d s
  | .bcs d => Sys2Proof.Machine.execBcs d s
  | .beq d => Sys2Proof.Machine.execBeq d s
  | .bne d => Sys2Proof.Machine.execBne d s
  | .bmi d => Sys2Proof.Machine.execBmi d s
  | .bpl d => Sys2Proof.Machine.execBpl d s
  | .bvc d => Sys2Proof.Machine.execBvc d s
  | .bvs d => Sys2Proof.Machine.execBvs d s
  | .jmpAbsolute w => Sys2Proof.Machine.execJmpAbsolute w s
  | .jmpIndirect w => Sys2Proof.Machine.execJmpIndirect w s
  | .jsr w => Sys2Proof.Machine.execJsr w s
  | .rts => Sys2Proof.Machine.execRts s
  | .rti => Sys2Proof.Machine.execRti s
  | .brk => Sys2Proof.Machine.execBrk s
  | .pha => Sys2Proof.Machine.execPha s
  | .php => Sys2Proof.Machine.execPhp s
  | .pla => Sys2Proof.Machine.execPla s
  | .plp => Sys2Proof.Machine.execPlp s
  | .clc => Sys2Proof.Machine.execClc s
  | .cld => Sys2Proof.Machine.execCld s
  | .cli => Sys2Proof.Machine.execCli s
  | .clv => Sys2Proof.Machine.execClv s
  | .sec => Sys2Proof.Machine.execSec s
  | .sed => Sys2Proof.Machine.execSed s
  | .sei => Sys2Proof.Machine.execSei s
  | .nop => Sys2Proof.Machine.execNop s
  | .undefined op => Sys2Proof.Machine.execUndefined op s

end Sys2Proof.Machine
end

