-- ==== Sys2Proof/Machine/Loop.lean ====
section
/-! DEFINITION. The instruction cycle, the execution loop, and the host's requests (48_dispatch_loop.md R250 to R269,
70_reset_and_hazards.md R300 to R303). A host request is an event between two instructions, beside the loop's own step (R254, R264). -/

namespace Sys2Proof.Machine

/-! ## Executing one instruction (R251, R252) -/

/-- The instruction at PC: fetches read memory directly, at increasing addresses that wrap (R69, R74, R90). -/
def State.fetch (s : State) : Instr :=
  decodeWindow (s.mem.read s.pc) (s.mem.read (s.pc + 1#16)) (s.mem.read (s.pc + 2#16))

/-- `ExecOne()` (R251): the same whatever `LoopState` is. -/
def execOne (s : State) : Result := exec s.fetch s

/-! ## The execution loop (R255 to R259) -/

/-- `Boundary()` (R258): a halt is taken before a pause, a pause before the next instruction (R284). -/
def boundary (s : State) : Result :=
  if s.b then .next { s with loopState := .halted }
  else if s.pauseReq then .next { s with pauseReq := false, loopState := .paused }
  else execOne s

/-- One step of the loop: a boundary step while Running; otherwise no instruction executes and the state is
unchanged (R256). -/
def loopStep (s : State) : Result :=
  match s.loopState with
  | .running => boundary s
  | .idle | .paused | .halted => .next s

/-- One host tick (R259): up to `BatchSize` boundary steps while Running, then a yield. -/
def runBatch : Nat → State → Result
  | 0, s => .next s
  | k + 1, s =>
    match s.loopState with
    | .running =>
      match boundary s with
      | .next t => runBatch k t
      | .fault r => .fault r
      | .refused r => .refused r
    | .idle | .paused | .halted => .next s

/-! ## Host requests (R264) -/

/-- `reset()` (R300): every piece of state at once; the machine's parameters are no state and stay. -/
def hostReset (s : State) : Result := .next { State.reset with params := s.params }

/-- `burn(bytes, loadAddress)` (R266): refused while Running and past $FFFF; changes memory alone. -/
def hostBurn (bytes : List Byte) (load : Nat) (s : State) : Result :=
  if s.loopState = .running then .refused .burnWhileRunning
  else if load + bytes.length > 65536 then .refused .burnOutOfRange
  else .next { s with mem := s.mem.writeBytes (BitVec.ofNat 16 load) bytes }

/-- `run()` (R257): clears the stop and pause flags; refused while Running. -/
def hostRun (s : State) : Result :=
  if s.loopState = .running then .refused .runWhileRunning
  else .next { s with pauseReq := false, b := false, loopState := .running }

/-- `step()` (R260): exactly one instruction, whatever B and PauseReq hold, then Paused; refused while Running. -/
def hostStep (s : State) : Result :=
  if s.loopState = .running then .refused .stepWhileRunning
  else
    match execOne s with
    | .next t => .next { t with loopState := .paused }
    | .fault r => .fault r
    | .refused r => .refused r

/-- `stop()` (R261): sets B; when the loop is not Running it is Halted at once. -/
def hostStop (s : State) : Result :=
  match s.loopState with
  | .running => .next { s with b := true }
  | .idle | .paused | .halted => .next { s with b := true, loopState := .halted }

/-- `pause()` (R262): no effect unless Running. -/
def hostPause (s : State) : Result :=
  match s.loopState with
  | .running => .next { s with pauseReq := true }
  | .idle | .paused | .halted => .next s

/-- What the host can ask for (R264). The load address of `burn` is a number, so that it can be out of range. -/
inductive HostRequest
  | reset
  | burn (bytes : List Byte) (load : Nat)
  | run
  | step
  | stop
  | pause
  /-- Reading the machine's state, which changes nothing (R265). -/
  | inspect
  deriving DecidableEq, Repr

/-- The answer to a host request. -/
def host (r : HostRequest) (s : State) : Result :=
  match r with
  | .reset => hostReset s
  | .burn bytes load => hostBurn bytes load s
  | .run => hostRun s
  | .step => hostStep s
  | .stop => hostStop s
  | .pause => hostPause s
  | .inspect => .next s

/-- The messages of the worker channel (R267). -/
inductive ChannelMessage
  | run
  | ram (bytes : List Byte)
  | reset
  deriving DecidableEq, Repr

/-- The host request a channel message stands for (R267, D34): `ram` burns at address 0. -/
def channelRequest : ChannelMessage → HostRequest
  | .run => .run
  | .ram bytes => .burn bytes 0
  | .reset => .reset

/-! ## Runs with a host (R264, R268) -/

/-- What can happen at an instruction boundary: the loop's own step, or a host request. -/
inductive Event
  | loop
  | host (r : HostRequest)
  deriving DecidableEq, Repr

/-- The answer to an event. -/
def react (e : Event) (s : State) : Result :=
  match e with
  | .loop => loopStep s
  | .host r => host r s

/-- The state after an event: a refused request leaves the state as it was (R13, R257, R260, R266). -/
def settle (e : Event) (s : State) : State :=
  match react e s with
  | .next t => t
  | .fault _ => s
  | .refused _ => s

/-- The state after a sequence of events, first to last. -/
def runEvents : List Event → State → State
  | [], s => s
  | e :: es, s => runEvents es (settle e s)

/-- The standard launch of an object (R268): `reset(); burn(object, 0); run()`. -/
def standardLaunch (object : List Byte) (s : State) : State :=
  runEvents [.host .reset, .host (.burn object 0), .host .run] s

end Sys2Proof.Machine
end

