-- ==== Sys2Proof/Machine/Step.lean ====
section
/-! DEFINITION. The machine's step, and the placing of one instruction where the next step fetches it. -/

namespace Sys2Proof.Machine

/-- One step of the machine: the execution loop's (R256, R258). Host requests are `host`, between steps. -/
def step (s : State) : Host.Outcome State Fault Refusal := loopStep s

/-- `s` with one instruction of the opcode table stored at PC and the loop about to execute it: the loop is
Running and neither a halt nor a pause is pending (R258). Log entry 5. -/
def State.withFetchWord (s : State) (nbits w : Nat) : State :=
  { s with
    mem := s.mem.writeBytes s.pc (tableBytes nbits w)
    loopState := .running, b := false, pauseReq := false }

end Sys2Proof.Machine
end

