-- ==== Sys2Proof/Safety.lean ====
section
/-! DEFINITION. The terms claims are made in: the invariant of the machine, safe steps, and what the spec lists each
instruction as reading and writing (10_state.md R24, R26, R29 to R37, R40). -/

namespace Sys2Proof.Machine

/-- What every state of a run satisfies, whatever the host does. -/
structure State.Inv (s : State) : Prop where
  /-- Memory is in its canonical form. -/
  memCanonical : s.mem.wf = true
  /-- Every decode diagnostic records one of the 105 undefined bytes (R40, R95, R253). -/
  diagUndefined : ∀ e ∈ s.diagLog, isUndefinedByte e.op = true
  /-- A halted loop has B set: only the Break flag halts it (R258, R261, C5). -/
  haltedBreak : s.loopState = .halted → s.b = true
  /-- An idle loop has neither a stop nor a pause pending (R41, R261, R262). -/
  idleQuiet : s.loopState = .idle → s.b = false ∧ s.pauseReq = false

/-- A step from the state goes on: it is neither a fault nor a refusal (R280). -/
def State.Safe (s : State) : Prop := ∃ t, step s = .next t

end Sys2Proof.Machine

namespace Sys2Proof

open Machine

/-- The memory operand of an instruction in one of the eight memory modes (R120). JMP and JSR take their absolute
operand as a target and do not access it (R127), so they have none. -/
def Instr.memOperand : Instr → Option MemOperand
  | .ldaZeroPage z => some (.zeroPage z)
  | .ldaZeroPageX z => some (.zeroPageX z)
  | .ldaAbsolute w => some (.absolute w)
  | .ldaAbsoluteX w => some (.absoluteX w)
  | .ldaAbsoluteY w => some (.absoluteY w)
  | .ldaIndirectX z => some (.indirectX z)
  | .ldaIndirectY z => some (.indirectY z)
  | .ldxZeroPage z => some (.zeroPage z)
  | .ldxZeroPageY z => some (.zeroPageY z)
  | .ldxAbsolute w => some (.absolute w)
  | .ldxAbsoluteY w => some (.absoluteY w)
  | .ldyZeroPage z => some (.zeroPage z)
  | .ldyZeroPageX z => some (.zeroPageX z)
  | .ldyAbsolute w => some (.absolute w)
  | .ldyAbsoluteX w => some (.absoluteX w)
  | .staZeroPage z => some (.zeroPage z)
  | .staZeroPageX z => some (.zeroPageX z)
  | .staAbsolute w => some (.absolute w)
  | .staAbsoluteX w => some (.absoluteX w)
  | .staAbsoluteY w => some (.absoluteY w)
  | .staIndirectX z => some (.indirectX z)
  | .staIndirectY z => some (.indirectY z)
  | .stxZeroPage z => some (.zeroPage z)
  | .stxZeroPageY z => some (.zeroPageY z)
  | .stxAbsolute w => some (.absolute w)
  | .styZeroPage z => some (.zeroPage z)
  | .styZeroPageX z => some (.zeroPageX z)
  | .styAbsolute w => some (.absolute w)
  | .adcZeroPage z => some (.zeroPage z)
  | .adcZeroPageX z => some (.zeroPageX z)
  | .adcAbsolute w => some (.absolute w)
  | .adcAbsoluteX w => some (.absoluteX w)
  | .adcAbsoluteY w => some (.absoluteY w)
  | .adcIndirectX z => some (.indirectX z)
  | .adcIndirectY z => some (.indirectY z)
  | .sbcZeroPage z => some (.zeroPage z)
  | .sbcZeroPageX z => some (.zeroPageX z)
  | .sbcAbsolute w => some (.absolute w)
  | .sbcAbsoluteX w => some (.absoluteX w)
  | .sbcAbsoluteY w => some (.absoluteY w)
  | .sbcIndirectX z => some (.indirectX z)
  | .sbcIndirectY z => some (.indirectY z)
  | .andZeroPage z => some (.zeroPage z)
  | .andZeroPageX z => some (.zeroPageX z)
  | .andAbsolute w => some (.absolute w)
  | .andAbsoluteX w => some (.absoluteX w)
  | .andAbsoluteY w => some (.absoluteY w)
  | .andIndirectX z => some (.indirectX z)
  | .andIndirectY z => some (.indirectY z)
  | .oraZeroPage z => some (.zeroPage z)
  | .oraZeroPageX z => some (.zeroPageX z)
  | .oraAbsolute w => some (.absolute w)
  | .oraAbsoluteX w => some (.absoluteX w)
  | .oraAbsoluteY w => some (.absoluteY w)
  | .oraIndirectX z => some (.indirectX z)
  | .oraIndirectY z => some (.indirectY z)
  | .eorZeroPage z => some (.zeroPage z)
  | .eorZeroPageX z => some (.zeroPageX z)
  | .eorAbsolute w => some (.absolute w)
  | .eorAbsoluteX w => some (.absoluteX w)
  | .eorAbsoluteY w => some (.absoluteY w)
  | .eorIndirectX z => some (.indirectX z)
  | .eorIndirectY z => some (.indirectY z)
  | .cmpZeroPage z => some (.zeroPage z)
  | .cmpZeroPageX z => some (.zeroPageX z)
  | .cmpAbsolute w => some (.absolute w)
  | .cmpAbsoluteX w => some (.absoluteX w)
  | .cmpAbsoluteY w => some (.absoluteY w)
  | .cmpIndirectX z => some (.indirectX z)
  | .cmpIndirectY z => some (.indirectY z)
  | .cpxZeroPage z => some (.zeroPage z)
  | .cpxAbsolute w => some (.absolute w)
  | .cpyZeroPage z => some (.zeroPage z)
  | .cpyAbsolute w => some (.absolute w)
  | .bitZeroPage z => some (.zeroPage z)
  | .bitAbsolute w => some (.absolute w)
  | .incZeroPage z => some (.zeroPage z)
  | .incZeroPageX z => some (.zeroPageX z)
  | .incAbsolute w => some (.absolute w)
  | .incAbsoluteX w => some (.absoluteX w)
  | .decZeroPage z => some (.zeroPage z)
  | .decZeroPageX z => some (.zeroPageX z)
  | .decAbsolute w => some (.absolute w)
  | .decAbsoluteX w => some (.absoluteX w)
  | .aslZeroPage z => some (.zeroPage z)
  | .aslZeroPageX z => some (.zeroPageX z)
  | .aslAbsolute w => some (.absolute w)
  | .aslAbsoluteX w => some (.absoluteX w)
  | .lsrZeroPage z => some (.zeroPage z)
  | .lsrZeroPageX z => some (.zeroPageX z)
  | .lsrAbsolute w => some (.absolute w)
  | .lsrAbsoluteX w => some (.absoluteX w)
  | .rolZeroPage z => some (.zeroPage z)
  | .rolZeroPageX z => some (.zeroPageX z)
  | .rolAbsolute w => some (.absolute w)
  | .rolAbsoluteX w => some (.absoluteX w)
  | .rorZeroPage z => some (.zeroPage z)
  | .rorZeroPageX z => some (.zeroPageX z)
  | .rorAbsolute w => some (.absolute w)
  | .rorAbsoluteX w => some (.absoluteX w)
  | .ldaImmediate _ | .ldxImmediate _ | .ldyImmediate _ | .tax | .tay | .txa | .tya | .tsx | .txs
  | .adcImmediate _ | .sbcImmediate _ | .andImmediate _ | .oraImmediate _ | .eorImmediate _
  | .cmpImmediate _ | .cpxImmediate _ | .cpyImmediate _ | .inx | .iny | .dex | .dey | .aslAccumulator
  | .lsrAccumulator | .rolAccumulator | .rorAccumulator | .bcc _ | .bcs _ | .beq _ | .bne _ | .bmi _
  | .bpl _ | .bvc _ | .bvs _ | .jmpAbsolute _ | .jmpIndirect _ | .jsr _ | .rts | .rti | .brk | .pha | .php
  | .pla | .plp | .clc | .cld | .cli | .clv | .sec | .sed | .sei | .nop | .undefined _ => none

/-- The addresses an instruction stores to, in order, computed as its meaning computes them from the state before
it (R37). None for an instruction that stores nothing. -/
def Instr.storedAddresses (i : Instr) (s : State) : List Addr :=
  match i.mnemonic with
  | .sta | .stx | .sty | .inc | .dec | .asl | .lsr | .rol | .ror => i.memOperand.toList.map (effectiveAddress s)
  | .pha | .php => [stackAddr s.sp]
  | .jsr => [stackAddr s.sp, stackAddr (s.sp - 1#8)]
  | .lda | .ldx | .ldy | .tax | .tay | .txa | .tya | .tsx | .txs | .adc | .sbc | .and | .ora | .eor | .cmp
  | .cpx | .cpy | .bit | .inx | .iny | .dex | .dey | .bcc | .bcs | .beq | .bne | .bmi | .bpl | .bvc | .bvs
  | .jmp | .rts | .rti | .brk | .pla | .plp | .clc | .cld | .cli | .clv | .sec | .sed | .sei | .nop
  | .undefined => []

/-! ## Writers and readers, as the spec lists them -/

/-- The instruction writes A (R24): the listed mnemonics, and the shifts and rotates of A. -/
def Instr.writesA (i : Instr) : Bool :=
  [.lda, .txa, .tya, .pla, .adc, .sbc, .and, .ora, .eor].contains i.mnemonic || i.mode == .accumulator

/-- Written X (R24). -/
def writersX : List Mnemonic := [.ldx, .tax, .tsx, .inx, .dex]

/-- Written Y (R24). -/
def writersY : List Mnemonic := [.ldy, .tay, .iny, .dey]

/-- Written SP (R26). -/
def writersSP : List Mnemonic := [.txs, .pha, .php, .pla, .plp, .jsr, .rts, .rti]

/-- Written N (R29); the same instructions write Z (R34). -/
def writersNZ : List Mnemonic :=
  [.lda, .ldx, .ldy, .tax, .tay, .txa, .tya, .tsx, .pla, .adc, .sbc, .and, .ora, .eor, .cmp, .cpx, .cpy, .bit,
   .inc, .dec, .inx, .iny, .dex, .dey, .asl, .lsr, .rol, .ror, .plp, .rti]

/-- Written V (R30). -/
def writersV : List Mnemonic := [.adc, .sbc, .bit, .clv, .plp, .rti]

/-- Written B by an instruction (R31). -/
def writersB : List Mnemonic := [.brk, .plp, .rti]

/-- Written D (R32). -/
def writersD : List Mnemonic := [.sed, .cld, .plp, .rti]

/-- Written I (R33). -/
def writersI : List Mnemonic := [.sei, .cli, .plp, .rti]

/-- Written C (R35). -/
def writersC : List Mnemonic := [.adc, .sbc, .cmp, .cpx, .cpy, .asl, .lsr, .rol, .ror, .clc, .sec, .plp, .rti]

/-- Reads N (R29). -/
def readersN : List Mnemonic := [.bmi, .bpl, .php]

/-- Reads V (R30). -/
def readersV : List Mnemonic := [.bvc, .bvs, .php]

/-- Reads Z (R34). -/
def readersZ : List Mnemonic := [.beq, .bne, .php]

/-- Reads C (R35). -/
def readersC : List Mnemonic := [.adc, .sbc, .rol, .ror, .bcc, .bcs, .php]

/-- The control transfers, which leave PC elsewhere than after the instruction (R25, 44_control_transfer.md). BRK is
not one: it leaves PC at the byte after it (R224). -/
def controlTransfers : List Mnemonic :=
  [.bcc, .bcs, .beq, .bne, .bmi, .bpl, .bvc, .bvs, .jmp, .jsr, .rts, .rti]

end Sys2Proof
end

