-- ==== Sys2Proof/Certificates/Slice0/Obligations.lean ====
section
/-! DEFINITION. The statements for the provers, and, under `Sys2Proof.Rules`, the spec's own formulas they are
written with: addresses (R134), result states, and the words of each opcode (R94). A result state is written as an
update of the state before, so it says the whole frame: what is not named is unchanged. -/

namespace Sys2Proof.Rules

open Sys2Proof.Machine

/-! ## What an instruction does -/

/-- The bytes decode to the instruction, all of them, and executing it in `s` answers the next state `t`. -/
def Does (bytes : List Byte) (i : Instr) (s t : State) : Prop :=
  decode bytes = .ok (i, []) ∧ exec i s = .next t

/-- The three bytes of an opcode with a 16-bit operand, low byte first (R91, R92). -/
def bytes3 (op : Byte) (w : Addr) : List Byte := [op, w.setWidth 8, (w >>> 8).setWidth 8]

/-- `(hi << 8) | lo` (R8). -/
def wordOf (lo hi : Byte) : Addr := (hi.setWidth 16 <<< 8) ||| lo.setWidth 16

/-! ## Effective addresses, by the table of R134 (wraps: R69, D2 and D6) -/

/-- `Mem[p] | Mem[(p + 1) & $FF] << 8`. -/
def pointer (s : State) (p : Byte) : Addr :=
  wordOf (s.mem.read (p.setWidth 16)) (s.mem.read ((p + 1#8).setWidth 16))

/-- ZeroPage. -/
def zp (z : Byte) : Addr := z.setWidth 16

/-- ZeroPageX. -/
def zpX (s : State) (z : Byte) : Addr := (z + s.x).setWidth 16

/-- ZeroPageY. -/
def zpY (s : State) (z : Byte) : Addr := (z + s.y).setWidth 16

/-- AbsoluteX. -/
def absX (s : State) (w : Addr) : Addr := w + s.x.setWidth 16

/-- AbsoluteY. -/
def absY (s : State) (w : Addr) : Addr := w + s.y.setWidth 16

/-- IndirectX. -/
def indX (s : State) (z : Byte) : Addr := pointer s (z + s.x)

/-- IndirectY. -/
def indY (s : State) (z : Byte) : Addr := pointer s z + s.y.setWidth 16

/-- The eight forms that read a source (Immediate, ZeroPage, ZeroPageX, Absolute, AbsoluteX, AbsoluteY, IndirectX,
IndirectY), each with its opcode byte: `P len v` holds of the instruction's length and the operand byte. -/
def EightSources (s : State) (P : List Byte → Instr → Addr → Byte → Prop)
    (oImm oZp oZpX oAbs oAbsX oAbsY oIndX oIndY : Byte) (imm zpF zpXF : Byte → Instr)
    (absF absXF absYF : Addr → Instr) (indXF indYF : Byte → Instr) : Prop :=
  (∀ v, P [oImm, v] (imm v) 2#16 v) ∧
  (∀ z, P [oZp, z] (zpF z) 2#16 (s.mem.read (zp z))) ∧
  (∀ z, P [oZpX, z] (zpXF z) 2#16 (s.mem.read (zpX s z))) ∧
  (∀ w, P (bytes3 oAbs w) (absF w) 3#16 (s.mem.read w)) ∧
  (∀ w, P (bytes3 oAbsX w) (absXF w) 3#16 (s.mem.read (absX s w))) ∧
  (∀ w, P (bytes3 oAbsY w) (absYF w) 3#16 (s.mem.read (absY s w))) ∧
  (∀ z, P [oIndX, z] (indXF z) 2#16 (s.mem.read (indX s z))) ∧
  (∀ z, P [oIndY, z] (indYF z) 2#16 (s.mem.read (indY s z)))

/-- The four read-modify-write memory forms (ZeroPage, ZeroPageX, Absolute, AbsoluteX): `t len ea` is the next state
from the instruction's length and the effective address. -/
def FourPlaces (s : State) (t : Addr → Addr → State) (oZp oZpX oAbs oAbsX : Byte)
    (zpF zpXF : Byte → Instr) (absF absXF : Addr → Instr) : Prop :=
  (∀ z, Does [oZp, z] (zpF z) s (t 2#16 (zp z))) ∧
  (∀ z, Does [oZpX, z] (zpXF z) s (t 2#16 (zpX s z))) ∧
  (∀ w, Does (bytes3 oAbs w) (absF w) s (t 3#16 w)) ∧
  (∀ w, Does (bytes3 oAbsX w) (absXF w) s (t 3#16 (absX s w)))

/-! ## Result states -/

/-- A loaded: `A <- v; SetNZ(A)` (R150). -/
def loadedA (s : State) (len : Addr) (v : Byte) : State :=
  { s with pc := s.pc + len, a := v, n := v.getLsbD 7, z := decide (v = 0#8) }

/-- X loaded: `X <- v; SetNZ(X)` (R151). -/
def loadedX (s : State) (len : Addr) (v : Byte) : State :=
  { s with pc := s.pc + len, x := v, n := v.getLsbD 7, z := decide (v = 0#8) }

/-- Y loaded: `Y <- v; SetNZ(Y)` (R152). -/
def loadedY (s : State) (len : Addr) (v : Byte) : State :=
  { s with pc := s.pc + len, y := v, n := v.getLsbD 7, z := decide (v = 0#8) }

/-- A byte stored at an address; no flag is written (R153 to R155). -/
def stored (s : State) (len ea : Addr) (v : Byte) : State :=
  { s with pc := s.pc + len, mem := s.mem.write ea v }

/-- A byte of memory replaced by `f` of it, N and Z by the result (R180, R181). -/
def modified (f : Byte → Byte) (s : State) (len ea : Addr) : State :=
  let r := f (s.mem.read ea)
  { s with pc := s.pc + len, mem := s.mem.write ea r, n := r.getLsbD 7, z := decide (r = 0#8) }

/-- A byte of memory shifted or rotated: `f` gives the result and the new C from the byte and the old C (R200 to R203). -/
def shiftedMem (f : Byte → Bool → Byte × Bool) (s : State) (len ea : Addr) : State :=
  let r := f (s.mem.read ea) s.c
  { s with
    pc := s.pc + len, mem := s.mem.write ea r.1, c := r.2, n := r.1.getLsbD 7, z := decide (r.1 = 0#8) }

/-- A shifted or rotated. -/
def shiftedA (f : Byte → Bool → Byte × Bool) (s : State) : State :=
  let r := f s.a s.c
  { s with pc := s.pc + 1#16, a := r.1, c := r.2, n := r.1.getLsbD 7, z := decide (r.1 = 0#8) }

/-- ASL: `C <- v[7]; r <- (v << 1) & $FF` (R200). -/
def asl (v : Byte) (_c : Bool) : Byte × Bool := (v <<< 1, v.getLsbD 7)

/-- LSR: `C <- v[0]; r <- v >> 1` (R201). -/
def lsr (v : Byte) (_c : Bool) : Byte × Bool := (v >>> 1, v.getLsbD 0)

/-- ROL: `C <- v[7]; r <- ((v << 1) | c0) & $FF` (R202). -/
def rol (v : Byte) (c : Bool) : Byte × Bool := ((v <<< 1) ||| (if c then 1#8 else 0#8), v.getLsbD 7)

/-- ROR: `C <- v[0]; r <- (v >> 1) | (c0 << 7)` (R203). -/
def ror (v : Byte) (c : Bool) : Byte × Bool := ((v >>> 1) ||| (if c then 0x80#8 else 0#8), v.getLsbD 0)

/-- ADC's next state when V is `v'` (R171). -/
def added (s : State) (len : Addr) (m : Byte) (v' : Bool) : State :=
  let r := s.a.toNat + m.toNat + (if s.c then 1 else 0)
  { s with
    pc := s.pc + len, c := decide (r > 0xFF), v := v', a := BitVec.ofNat 8 r
    n := (BitVec.ofNat 8 r).getLsbD 7, z := decide (BitVec.ofNat 8 r = 0#8) }

/-- SBC's next state when V is `v'` (R172). -/
def subtracted (s : State) (len : Addr) (m : Byte) (v' : Bool) : State :=
  let r : Int := s.a.toNat - m.toNat - (if s.c then 0 else 1)
  { s with
    pc := s.pc + len, c := decide (r ≥ 0), v := v', a := BitVec.ofInt 8 r
    n := (BitVec.ofInt 8 r).getLsbD 7, z := decide (BitVec.ofInt 8 r = 0#8) }

/-- The flags of a comparison of a register with `m` (R176). -/
def compared (s : State) (len : Addr) (reg m : Byte) : State :=
  { s with
    pc := s.pc + len, c := decide (reg.toNat ≥ m.toNat), z := decide (reg = m), n := (reg - m).getLsbD 7 }

/-- BIT's next state (R179). -/
def bitTested (s : State) (len : Addr) (m : Byte) : State :=
  { s with pc := s.pc + len, z := decide ((s.a &&& m) = 0#8), n := m.getLsbD 7, v := m.getLsbD 6 }

/-- A branch's next state (R210). -/
def branched (s : State) (cond : Bool) (d : Byte) : State :=
  { s with pc := if cond then s.pc + 2#16 + d.signExtend 16 else s.pc + 2#16 }

/-- A flag as bit `k` of a byte. -/
def flagBit (f : Bool) (k : Nat) : Byte := if f then 1#8 <<< k else 0#8

/-- `PackP()` with the pushed Break bit `bp` (R27). -/
def packed (s : State) (bp : Bool) : Byte :=
  flagBit s.n 7 ||| flagBit s.v 6 ||| flagBit true 5 ||| flagBit bp 4 ||| flagBit s.d 3 ||| flagBit s.i 2 |||
    flagBit s.z 1 ||| flagBit s.c 0

/-- `UnpackP(p)` (R28). -/
def unpacked (s : State) (p : Byte) : State :=
  { s with
    n := p.getLsbD 7, v := p.getLsbD 6, b := p.getLsbD 4, d := p.getLsbD 3, i := p.getLsbD 2, z := p.getLsbD 1
    c := p.getLsbD 0 }

/-- The stack slot `k` above the one SP names, in page 1 (R26, R66, R67). -/
def slot (s : State) (k : Byte) : Addr := 0x0100#16 + (s.sp + k).setWidth 16

/-- The operand byte ADC or SBC reads: the immediate byte, or the byte at the effective address. -/
def ReadsOperand (i : Instr) (s : State) (m : Byte) : Prop :=
  i = .adcImmediate m ∨ i = .sbcImmediate m ∨
    ∃ o, i.memOperand = some o ∧ m = s.mem.read (effectiveAddress s o)

/-- The state after executing an instruction `k` times over, if each time it answers a next state. -/
def repeated (i : Instr) : Nat → State → Option State
  | 0, s => some s
  | k + 1, s =>
    match exec i s with
    | .next t => repeated i k t
    | .fault _ => none
    | .refused _ => none

end Sys2Proof.Rules

open Sys2Proof Sys2Proof.Machine Sys2Proof.Rules

/-! ## Encoding -/

/-- Decoding the encoding of a well-formed instruction gives it back, with every operand at every value, and leaves
the bytes after it (R91, R94). -/
def Obligations.DecodeEncodeAgree : Prop :=
  ∀ (i : Instr) (rest : List Byte), i.wellFormed = true → decode (encode i ++ rest) = .ok (i, rest)

/-- Whatever bytes decode, they are the encoding of the instruction they decode to, which is well formed: no two
byte strings mean one instruction (R90, R94, R96). -/
def Obligations.EncodeDecodeAgree : Prop :=
  ∀ (bytes : List Byte) (i : Instr) (rest : List Byte),
    decode bytes = .ok (i, rest) → i.wellFormed = true ∧ encode i ++ rest = bytes

/-- Words written out from the spec's own examples (R99, R100, W1, W2) decode to what they stand for. -/
def Obligations.SampleWordsDecode : Prop :=
  decode [0xA9#8, 0x01#8] = .ok (.ldaImmediate 0x01#8, []) ∧
  decode [0x85#8, 0x00#8] = .ok (.staZeroPage 0x00#8, []) ∧
  decode [0xA5#8, 0x05#8] = .ok (.ldaZeroPage 0x05#8, []) ∧
  decode [0xAD#8, 0x05#8, 0x00#8] = .ok (.ldaAbsolute 0x0005#16, []) ∧
  decode [0x4C#8, 0x34#8, 0x12#8] = .ok (.jmpAbsolute 0x1234#16, []) ∧
  decode [0x0A#8] = .ok (.aslAccumulator, []) ∧
  decode [0xF0#8, 0x02#8, 0xA9#8] = .ok (.beq 0x02#8, [0xA9#8]) ∧
  decode [0x02#8, 0xA9#8, 0x07#8] = .ok (.undefined 0x02#8, [0xA9#8, 0x07#8])

/-- Exactly the 105 bytes of R95 decode to the undefined instruction, which takes no operand byte (R96). -/
def Obligations.UndefinedBytesAreThe105 : Prop :=
  undefinedBytes.length = 105 ∧ undefinedBytes.Nodup ∧
  (∀ (op : Byte) (rest : List Byte), op ∈ undefinedBytes → decode (op :: rest) = .ok (.undefined op, rest)) ∧
  (∀ (op : Byte) (rest : List Byte) (i : Instr) (left : List Byte),
    op ∉ undefinedBytes → decode (op :: rest) = .ok (i, left) → i.mnemonic ≠ .undefined)

/-- The opcode byte alone tells the mnemonic, the mode and the length, and the length is that many bytes of
encoding (R93). -/
def Obligations.OpcodeTellsLength : Prop :=
  ∀ (op : Byte) (r r' left left' : List Byte) (i i' : Instr),
    decode (op :: r) = .ok (i, left) → decode (op :: r') = .ok (i', left') →
      i.mnemonic = i'.mnemonic ∧ i.mode = i'.mode ∧ i.length = i'.length ∧
        (op :: r).length = i.length + left.length

/-! ## The step and the execution loop -/

/-- While Running with neither a halt nor a pause pending, a step is `exec` of the instruction the bytes at PC decode
to; nothing is added around it (R251, R258). -/
def Obligations.StepRunsDecodedInstruction : Prop :=
  ∀ (s : State) (i : Instr) (rest : List Byte),
    s.loopState = .running → s.b = false → s.pauseReq = false →
    decode [s.mem.read s.pc, s.mem.read (s.pc + 1#16), s.mem.read (s.pc + 2#16)] = .ok (i, rest) →
      step s = exec i s

/-- Wherever the bytes of a well-formed instruction stand at PC, across $FFFF too, a step runs it: fetching reads
memory as it is, so a store into those bytes is seen (R69, R74). -/
def Obligations.StepRunsTheBytesInMemory : Prop :=
  ∀ (s : State) (i : Instr),
    i.wellFormed = true → s.loopState = .running → s.b = false → s.pauseReq = false →
    (∀ (k : Nat) (h : k < (encode i).length), s.mem.read (s.pc + BitVec.ofNat 16 k) = (encode i)[k]) →
      step s = exec i s

/-- The boundary check (R258): with B set the loop halts, whatever the pause request; else with a pause request it
pauses and clears the request; nothing else changes. The order is the spec's decision D16. -/
def Obligations.BoundaryChecksHaltThenPause : Prop :=
  ∀ s : State, s.loopState = .running →
    (s.b = true → step s = .next { s with loopState := .halted }) ∧
    (s.b = false → s.pauseReq = true → step s = .next { s with loopState := .paused, pauseReq := false })

/-- In Idle, Paused and Halted a step executes no instruction and the state is unchanged; and no host request but
`step()` executes one: but for `reset()`, an accepted request leaves every register, the log and every flag but B as
they were (R256). -/
def Obligations.OnlyRunningOrHostStepExecutes : Prop :=
  (∀ s : State, s.loopState ≠ .running → step s = .next s) ∧
  (∀ (r : HostRequest) (s t : State), r ≠ .step → r ≠ .reset → host r s = .next t →
    t.a = s.a ∧ t.x = s.x ∧ t.y = s.y ∧ t.pc = s.pc ∧ t.sp = s.sp ∧ t.n = s.n ∧ t.v = s.v ∧ t.d = s.d ∧ t.i = s.i ∧
      t.z = s.z ∧ t.c = s.c ∧ t.diagLog = s.diagLog ∧ ((∀ bytes load, r ≠ .burn bytes load) → t.mem = s.mem))

/-- Every instruction, every step and every batch answers a next state: no fault, no trap, no refusal (R76, R280). -/
def Obligations.NothingEverFaults : Prop :=
  (∀ (i : Instr) (s : State), ∃ t, exec i s = .next t) ∧ (∀ s : State, s.Safe) ∧
  (∀ (k : Nat) (s : State), ∃ t, runBatch k s = .next t)

/-- Every step keeps the invariant: memory canonical, only undefined bytes diagnosed, a halted loop has B set, an
idle loop has nothing pending. -/
def Obligations.StepKeepsInvariant : Prop :=
  ∀ s t : State, s.Inv → step s = .next t → t.Inv

/-- The invariant holds at reset. -/
def Obligations.ResetMeetsInvariant : Prop := State.reset.Inv

/-- Every host request that is accepted keeps the invariant, in any state that meets it. -/
def Obligations.HostRequestsKeepInvariant : Prop :=
  ∀ (r : HostRequest) (s t : State), s.Inv → host r s = .next t → t.Inv

/-- Through any sequence of loop steps and host requests, from any state that meets the invariant: the invariant
holds and the parameters are what they were. -/
def Obligations.EveryRunKeepsInvariant : Prop :=
  ∀ (es : List Event) (s : State), s.Inv → (runEvents es s).Inv ∧ (runEvents es s).params = s.params

/-- `reset()` is accepted in every state and sets every piece of state to its reset value; every byte of memory then
reads as $00 (R300). -/
def Obligations.ResetSetsEveryField : Prop :=
  ∀ s : State, ∃ t, host .reset s = .next t ∧
    t.a = 0#8 ∧ t.x = 0#8 ∧ t.y = 0#8 ∧ t.pc = 0#16 ∧ t.sp = 0xFF#8 ∧
    t.n = false ∧ t.v = false ∧ t.b = false ∧ t.d = false ∧ t.i = false ∧ t.z = false ∧ t.c = false ∧
    (∀ addr, t.mem.read addr = 0#8) ∧ t.loopState = .idle ∧ t.pauseReq = false ∧ t.diagLog = []

/-- `run()` is refused while Running; otherwise it clears PauseReq and B and sets Running (R257; the details are the
spec's decision D17). -/
def Obligations.RunClearsStopAndPause : Prop :=
  ∀ s : State,
    (s.loopState = .running → host .run s = .refused .runWhileRunning) ∧
    (s.loopState ≠ .running →
      host .run s = .next { s with pauseReq := false, b := false, loopState := .running })

/-- `step()` is refused while Running; otherwise it executes exactly the instruction at PC, whatever B and PauseReq
hold, and ends in Paused (R260; the details are the spec's decision D18). -/
def Obligations.HostStepExecutesOne : Prop :=
  ∀ s : State,
    (s.loopState = .running → host .step s = .refused .stepWhileRunning) ∧
    (s.loopState ≠ .running →
      ∃ t, exec s.fetch s = .next t ∧ host .step s = .next { t with loopState := .paused })

/-- `stop()` sets B and halts at once unless Running; `pause()` asks for a pause while Running and does nothing
otherwise; inspection changes nothing (R261, R262, R265; the details are the spec's decisions D19 and D20). -/
def Obligations.StopPauseInspect : Prop :=
  ∀ s : State,
    (s.loopState = .running → host .stop s = .next { s with b := true }) ∧
    (s.loopState ≠ .running → host .stop s = .next { s with b := true, loopState := .halted }) ∧
    (s.loopState = .running → host .pause s = .next { s with pauseReq := true }) ∧
    (s.loopState ≠ .running → host .pause s = .next s) ∧
    host .inspect s = .next s

/-- `burn` copies the bytes to memory from the load address on and changes nothing else; it is refused while Running
and past $FFFF (R266; the preconditions are the spec's decision D23). That a burn that breaks both preconditions is
refused as `burnWhileRunning`, and that the load address is a natural number, are the model's choice (log entry 20). -/
def Obligations.BurnCopiesItsBytes : Prop :=
  ∀ (s : State) (bytes : List Byte) (load : Nat),
    (s.loopState = .running → host (.burn bytes load) s = .refused .burnWhileRunning) ∧
    (s.loopState ≠ .running → load + bytes.length > 65536 → host (.burn bytes load) s = .refused .burnOutOfRange) ∧
    (s.mem.wf = true → s.loopState ≠ .running → load + bytes.length ≤ 65536 →
      ∃ t, host (.burn bytes load) s = .next t ∧ { t with mem := s.mem } = s ∧
        (∀ (k : Nat) (h : k < bytes.length), t.mem.read (BitVec.ofNat 16 (load + k)) = bytes[k]) ∧
        (∀ addr : Addr, addr.toNat < load ∨ load + bytes.length ≤ addr.toNat →
          t.mem.read addr = s.mem.read addr))

/-- The standard launch (R268): from any state, the object stands at 0 in otherwise zeroed memory, every register and
flag has its reset value, the log is empty and the loop is Running. -/
def Obligations.StandardLaunchStartsProgram : Prop :=
  ∀ (s : State) (object : List Byte), object.length ≤ 65536 →
    { standardLaunch object s with mem := [] } = { State.reset with loopState := .running, params := s.params } ∧
    (∀ (k : Nat) (h : k < object.length), (standardLaunch object s).mem.read (BitVec.ofNat 16 k) = object[k]) ∧
    (∀ addr : Addr, object.length ≤ addr.toNat → (standardLaunch object s).mem.read addr = 0#8)

/-- A batch of `m + k` boundary steps is a batch of `m` and then one of `k`: how a run is cut into batches changes no
state (R259). `BatchSize` is the spec's open parameter D21. -/
def Obligations.BatchSizeIsInvisible : Prop :=
  ∀ (m k : Nat) (s t : State), runBatch m s = .next t → runBatch (m + k) s = runBatch k t

/-- BRK executed by the running loop, then the boundary, then the host's `run()`: the loop halts with PC at the byte
after the BRK and resumes there with B clear; no other state has changed (R224, R257, R258; D13, D16, D17). -/
def Obligations.BreakHaltsAndRunResumes : Prop :=
  ∀ s : State, s.loopState = .running → s.b = false → s.pauseReq = false → s.mem.read s.pc = 0x00#8 →
    runEvents [.loop] s = { s with pc := s.pc + 1#16, b := true } ∧
    runEvents [.loop, .loop] s = { s with pc := s.pc + 1#16, b := true, loopState := .halted } ∧
    runEvents [.loop, .loop, .host .run] s = { s with pc := s.pc + 1#16 }

/-! ## Loads, stores and transfers -/

/-- LDA, all eight forms (R150). -/
def Obligations.LdaLoadsA : Prop :=
  ∀ s : State, EightSources s (fun bytes i len v => Does bytes i s (loadedA s len v))
    0xA9#8 0xA5#8 0xB5#8 0xAD#8 0xBD#8 0xB9#8 0xA1#8 0xB1#8
    .ldaImmediate .ldaZeroPage .ldaZeroPageX .ldaAbsolute .ldaAbsoluteX .ldaAbsoluteY .ldaIndirectX .ldaIndirectY

/-- LDX indexes with Y and LDY with X, all ten forms (R151, R152). -/
def Obligations.LdxLdyLoadIndexRegisters : Prop :=
  ∀ (s : State) (v z : Byte) (w : Addr),
    Does [0xA2#8, v] (.ldxImmediate v) s (loadedX s 2#16 v) ∧
    Does [0xA6#8, z] (.ldxZeroPage z) s (loadedX s 2#16 (s.mem.read (zp z))) ∧
    Does [0xB6#8, z] (.ldxZeroPageY z) s (loadedX s 2#16 (s.mem.read (zpY s z))) ∧
    Does (bytes3 0xAE#8 w) (.ldxAbsolute w) s (loadedX s 3#16 (s.mem.read w)) ∧
    Does (bytes3 0xBE#8 w) (.ldxAbsoluteY w) s (loadedX s 3#16 (s.mem.read (absY s w))) ∧
    Does [0xA0#8, v] (.ldyImmediate v) s (loadedY s 2#16 v) ∧
    Does [0xA4#8, z] (.ldyZeroPage z) s (loadedY s 2#16 (s.mem.read (zp z))) ∧
    Does [0xB4#8, z] (.ldyZeroPageX z) s (loadedY s 2#16 (s.mem.read (zpX s z))) ∧
    Does (bytes3 0xAC#8 w) (.ldyAbsolute w) s (loadedY s 3#16 (s.mem.read w)) ∧
    Does (bytes3 0xBC#8 w) (.ldyAbsoluteX w) s (loadedY s 3#16 (s.mem.read (absX s w)))

/-- STA, STX and STY store their register at the effective address and write no flag, all thirteen forms
(R153 to R155). -/
def Obligations.StoresWriteTheirRegister : Prop :=
  ∀ (s : State) (z : Byte) (w : Addr),
    Does [0x85#8, z] (.staZeroPage z) s (stored s 2#16 (zp z) s.a) ∧
    Does [0x95#8, z] (.staZeroPageX z) s (stored s 2#16 (zpX s z) s.a) ∧
    Does (bytes3 0x8D#8 w) (.staAbsolute w) s (stored s 3#16 w s.a) ∧
    Does (bytes3 0x9D#8 w) (.staAbsoluteX w) s (stored s 3#16 (absX s w) s.a) ∧
    Does (bytes3 0x99#8 w) (.staAbsoluteY w) s (stored s 3#16 (absY s w) s.a) ∧
    Does [0x81#8, z] (.staIndirectX z) s (stored s 2#16 (indX s z) s.a) ∧
    Does [0x91#8, z] (.staIndirectY z) s (stored s 2#16 (indY s z) s.a) ∧
    Does [0x86#8, z] (.stxZeroPage z) s (stored s 2#16 (zp z) s.x) ∧
    Does [0x96#8, z] (.stxZeroPageY z) s (stored s 2#16 (zpY s z) s.x) ∧
    Does (bytes3 0x8E#8 w) (.stxAbsolute w) s (stored s 3#16 w s.x) ∧
    Does [0x84#8, z] (.styZeroPage z) s (stored s 2#16 (zp z) s.y) ∧
    Does [0x94#8, z] (.styZeroPageX z) s (stored s 2#16 (zpX s z) s.y) ∧
    Does (bytes3 0x8C#8 w) (.styAbsolute w) s (stored s 3#16 w s.y)

/-- The six register transfers; TXS alone writes no flag (R156 to R161). -/
def Obligations.TransfersCopyRegisters : Prop :=
  ∀ s : State,
    Does [0xAA#8] .tax s (loadedX s 1#16 s.a) ∧ Does [0xA8#8] .tay s (loadedY s 1#16 s.a) ∧
    Does [0x8A#8] .txa s (loadedA s 1#16 s.x) ∧ Does [0x98#8] .tya s (loadedA s 1#16 s.y) ∧
    Does [0xBA#8] .tsx s (loadedX s 1#16 s.sp) ∧
    Does [0x9A#8] .txs s { s with pc := s.pc + 1#16, sp := s.x }

/-! ## Arithmetic and logic -/

/-- ADC, all eight forms (R171): everything but V is the integer sum's whatever `OverflowFn` is; V is the default
formula's when `OverflowFn` is the default, and the unstated function's of A, m and the result byte when it is not
(log entry 2). -/
def Obligations.AdcAddsWithCarry : Prop :=
  ∀ s : State, EightSources s
    (fun bytes i len m => ∃ v', Does bytes i s (added s len m v') ∧
      (s.params.overflowFn = .standard →
        v' = decide (((s.a ^^^ (added s len m v').a) &&& (m ^^^ (added s len m v').a) &&& 0x80#8) ≠ 0#8)) ∧
      (s.params.overflowFn = .unstated → v' = Config.adcOverflow s.a m (added s len m v').a))
    0x69#8 0x65#8 0x75#8 0x6D#8 0x7D#8 0x79#8 0x61#8 0x71#8
    .adcImmediate .adcZeroPage .adcZeroPageX .adcAbsolute .adcAbsoluteX .adcAbsoluteY .adcIndirectX .adcIndirectY

/-- SBC, all eight forms (R172), as for ADC (log entry 2). -/
def Obligations.SbcSubtractsWithBorrow : Prop :=
  ∀ s : State, EightSources s
    (fun bytes i len m => ∃ v', Does bytes i s (subtracted s len m v') ∧
      (s.params.overflowFn = .standard →
        v' = decide (((s.a ^^^ m) &&& (s.a ^^^ (subtracted s len m v').a) &&& 0x80#8) ≠ 0#8)) ∧
      (s.params.overflowFn = .unstated → v' = Config.sbcOverflow s.a m (subtracted s len m v').a))
    0xE9#8 0xE5#8 0xF5#8 0xED#8 0xFD#8 0xF9#8 0xE1#8 0xF1#8
    .sbcImmediate .sbcZeroPage .sbcZeroPageX .sbcAbsolute .sbcAbsoluteX .sbcAbsoluteY .sbcIndirectX .sbcIndirectY

/-- With the default `OverflowFn`, V says that the signed result lies outside −128 … 127, in every form of ADC and
SBC (R170; the formula is the spec's decision D10). -/
def Obligations.OverflowMeansSignedRange : Prop :=
  ∀ (i : Instr) (s t : State) (m : Byte),
    s.params.overflowFn = .standard → ReadsOperand i s m → exec i s = .next t →
    (i.mnemonic = .adc →
      (t.v = true ↔ (s.a.toInt + m.toInt + s.c.toInt < -128 ∨ s.a.toInt + m.toInt + s.c.toInt > 127))) ∧
    (i.mnemonic = .sbc →
      (t.v = true ↔
        (s.a.toInt - m.toInt - (1 - s.c.toInt) < -128 ∨ s.a.toInt - m.toInt - (1 - s.c.toInt) > 127)))

/-- AND, ORA and EOR, all twenty-four forms (R173 to R175). -/
def Obligations.LogicCombinesWithA : Prop :=
  ∀ s : State,
    EightSources s (fun bytes i len m => Does bytes i s (loadedA s len (s.a &&& m)))
      0x29#8 0x25#8 0x35#8 0x2D#8 0x3D#8 0x39#8 0x21#8 0x31#8
      .andImmediate .andZeroPage .andZeroPageX .andAbsolute .andAbsoluteX .andAbsoluteY .andIndirectX .andIndirectY ∧
    EightSources s (fun bytes i len m => Does bytes i s (loadedA s len (s.a ||| m)))
      0x09#8 0x05#8 0x15#8 0x0D#8 0x1D#8 0x19#8 0x01#8 0x11#8
      .oraImmediate .oraZeroPage .oraZeroPageX .oraAbsolute .oraAbsoluteX .oraAbsoluteY .oraIndirectX .oraIndirectY ∧
    EightSources s (fun bytes i len m => Does bytes i s (loadedA s len (s.a ^^^ m)))
      0x49#8 0x45#8 0x55#8 0x4D#8 0x5D#8 0x59#8 0x41#8 0x51#8
      .eorImmediate .eorZeroPage .eorZeroPageX .eorAbsolute .eorAbsoluteX .eorAbsoluteY .eorIndirectX .eorIndirectY

/-- CMP, CPX and CPY, all fourteen forms: the flags of the comparison and nothing else (R176 to R178). -/
def Obligations.ComparesSetFlagsOnly : Prop :=
  ∀ s : State,
    EightSources s (fun bytes i len m => Does bytes i s (compared s len s.a m))
      0xC9#8 0xC5#8 0xD5#8 0xCD#8 0xDD#8 0xD9#8 0xC1#8 0xD1#8
      .cmpImmediate .cmpZeroPage .cmpZeroPageX .cmpAbsolute .cmpAbsoluteX .cmpAbsoluteY .cmpIndirectX .cmpIndirectY ∧
    (∀ (v z : Byte) (w : Addr),
      Does [0xE0#8, v] (.cpxImmediate v) s (compared s 2#16 s.x v) ∧
      Does [0xE4#8, z] (.cpxZeroPage z) s (compared s 2#16 s.x (s.mem.read (zp z))) ∧
      Does (bytes3 0xEC#8 w) (.cpxAbsolute w) s (compared s 3#16 s.x (s.mem.read w)) ∧
      Does [0xC0#8, v] (.cpyImmediate v) s (compared s 2#16 s.y v) ∧
      Does [0xC4#8, z] (.cpyZeroPage z) s (compared s 2#16 s.y (s.mem.read (zp z))) ∧
      Does (bytes3 0xCC#8 w) (.cpyAbsolute w) s (compared s 3#16 s.y (s.mem.read w)))

/-- BIT, both forms: Z from A and the operand, N and V from the operand (R179). -/
def Obligations.BitTestsOperand : Prop :=
  ∀ (s : State) (z : Byte) (w : Addr),
    Does [0x24#8, z] (.bitZeroPage z) s (bitTested s 2#16 (s.mem.read (zp z))) ∧
    Does (bytes3 0x2C#8 w) (.bitAbsolute w) s (bitTested s 3#16 (s.mem.read w))

/-- INC and DEC, all eight forms, and INX, INY, DEX and DEY (R180 to R185). -/
def Obligations.IncrementsAndDecrements : Prop :=
  ∀ s : State,
    FourPlaces s (modified (fun v => v + 1#8) s) 0xE6#8 0xF6#8 0xEE#8 0xFE#8
      .incZeroPage .incZeroPageX .incAbsolute .incAbsoluteX ∧
    FourPlaces s (modified (fun v => v - 1#8) s) 0xC6#8 0xD6#8 0xCE#8 0xDE#8
      .decZeroPage .decZeroPageX .decAbsolute .decAbsoluteX ∧
    Does [0xE8#8] .inx s (loadedX s 1#16 (s.x + 1#8)) ∧ Does [0xC8#8] .iny s (loadedY s 1#16 (s.y + 1#8)) ∧
    Does [0xCA#8] .dex s (loadedX s 1#16 (s.x - 1#8)) ∧ Does [0x88#8] .dey s (loadedY s 1#16 (s.y - 1#8))

/-! ## Shifts and rotates -/

/-- ASL and LSR, all ten forms (R200, R201). -/
def Obligations.ShiftsMoveOneBit : Prop :=
  ∀ s : State,
    Does [0x0A#8] .aslAccumulator s (shiftedA asl s) ∧
    FourPlaces s (shiftedMem asl s) 0x06#8 0x16#8 0x0E#8 0x1E#8
      .aslZeroPage .aslZeroPageX .aslAbsolute .aslAbsoluteX ∧
    Does [0x4A#8] .lsrAccumulator s (shiftedA lsr s) ∧
    FourPlaces s (shiftedMem lsr s) 0x46#8 0x56#8 0x4E#8 0x5E#8
      .lsrZeroPage .lsrZeroPageX .lsrAbsolute .lsrAbsoluteX

/-- ROL, all five forms (R202), and ROR, all five forms (R203); that ROR is the standard rotate through carry is the
spec's decision D31 (log entry 25). -/
def Obligations.RotatesMoveThroughCarry : Prop :=
  ∀ s : State,
    Does [0x2A#8] .rolAccumulator s (shiftedA rol s) ∧
    FourPlaces s (shiftedMem rol s) 0x26#8 0x36#8 0x2E#8 0x3E#8
      .rolZeroPage .rolZeroPageX .rolAbsolute .rolAbsoluteX ∧
    Does [0x6A#8] .rorAccumulator s (shiftedA ror s) ∧
    FourPlaces s (shiftedMem ror s) 0x66#8 0x76#8 0x6E#8 0x7E#8
      .rorZeroPage .rorZeroPageX .rorAbsolute .rorAbsoluteX

/-- Nine ROLs, or nine RORs, of one operand give back the operand and C (R204, which the spec marks as derived from
R202 and R203). -/
def Obligations.NineRotatesAreIdentity : Prop :=
  ∀ (i : Instr) (s : State), i.mnemonic = .rol ∨ i.mnemonic = .ror → s.mem.wf = true →
    ∃ t, repeated i 9 s = some t ∧ t.a = s.a ∧ t.c = s.c ∧ ∀ addr, t.mem.read addr = s.mem.read addr

/-! ## Control transfer -/

/-- The eight branches (R210 to R218). -/
def Obligations.BranchesTestOneFlag : Prop :=
  ∀ (s : State) (d : Byte),
    Does [0x90#8, d] (.bcc d) s (branched s (decide (s.c = false)) d) ∧
    Does [0xB0#8, d] (.bcs d) s (branched s (decide (s.c = true)) d) ∧
    Does [0xF0#8, d] (.beq d) s (branched s (decide (s.z = true)) d) ∧
    Does [0xD0#8, d] (.bne d) s (branched s (decide (s.z = false)) d) ∧
    Does [0x30#8, d] (.bmi d) s (branched s (decide (s.n = true)) d) ∧
    Does [0x10#8, d] (.bpl d) s (branched s (decide (s.n = false)) d) ∧
    Does [0x50#8, d] (.bvc d) s (branched s (decide (s.v = false)) d) ∧
    Does [0x70#8, d] (.bvs d) s (branched s (decide (s.v = true)) d)

/-- JMP absolute (R219). -/
def Obligations.JmpAbsoluteGoesToOperand : Prop :=
  ∀ (s : State) (w : Addr), Does (bytes3 0x4C#8 w) (.jmpAbsolute w) s { s with pc := w }

/-- JMP indirect under each reading of its operand (R130, R220); the readings are the spec's parameter
`JmpIndirectReading`, decision D5. -/
def Obligations.JmpIndirectByReading : Prop :=
  ∀ (s : State) (w : Addr),
    (s.params.jmpIndirectReading = .byteAtPointer →
      Does (bytes3 0x6C#8 w) (.jmpIndirect w) s { s with pc := (s.mem.read w).setWidth 16 }) ∧
    (s.params.jmpIndirectReading = .pointerItself →
      Does (bytes3 0x6C#8 w) (.jmpIndirect w) s { s with pc := w }) ∧
    (s.params.jmpIndirectReading = .wordAtPointer →
      Does (bytes3 0x6C#8 w) (.jmpIndirect w) s { s with pc := wordOf (s.mem.read w) (s.mem.read (w + 1#16)) })

/-- JSR pushes the address of its last byte, high byte first, and jumps (R221; the format is the spec's
decision D11). -/
def Obligations.JsrPushesReturnAddress : Prop :=
  ∀ (s : State) (w : Addr),
    Does (bytes3 0x20#8 w) (.jsr w) s
      { s with
        mem := (s.mem.write (slot s 0#8) (((s.pc + 2#16) >>> 8).setWidth 8)).write (slot s 0xFF#8)
          ((s.pc + 2#16).setWidth 8)
        sp := s.sp - 2#8, pc := w }

/-- RTS pulls the low byte and the high byte and adds 1; RTI pulls the status and then PC, and adds nothing (R222,
R223; the frames are the spec's decisions D11 and D12). -/
def Obligations.ReturnsPullTheirFrames : Prop :=
  ∀ s : State,
    Does [0x60#8] .rts s
      { s with sp := s.sp + 2#8, pc := wordOf (s.mem.read (slot s 1#8)) (s.mem.read (slot s 2#8)) + 1#16 } ∧
    Does [0x40#8] .rti s
      { unpacked s (s.mem.read (slot s 1#8)) with
        sp := s.sp + 3#8, pc := wordOf (s.mem.read (slot s 2#8)) (s.mem.read (slot s 3#8)) }

/-- After a JSR, an RTS executed with the same SP and the same two stack bytes returns to the byte after the JSR and
gives SP back (R221, R222; D11). -/
def Obligations.RtsReturnsAfterJsr : Prop :=
  ∀ (s : State) (w : Addr), s.mem.wf = true →
    ∃ t, exec (.jsr w) s = .next t ∧ t.pc = w ∧
      ∀ u : State, u.sp = t.sp → u.mem.read (slot t 1#8) = t.mem.read (slot t 1#8) →
        u.mem.read (slot t 2#8) = t.mem.read (slot t 2#8) →
        exec .rts u = .next { u with pc := s.pc + 3#16, sp := s.sp }

/-- BRK sets B and nothing else (R224; the details are the spec's decision D13). -/
def Obligations.BrkSetsBreakOnly : Prop :=
  ∀ s : State, Does [0x00#8] .brk s { s with pc := s.pc + 1#16, b := true }

/-! ## Stack, flags, no operation, undefined bytes -/

/-- PHA stores A at $0100 + SP and decrements SP; PLA increments SP, loads A from there, and sets N and Z (R230,
R232). -/
def Obligations.PhaPlaMoveA : Prop :=
  ∀ s : State,
    Does [0x48#8] .pha s { s with pc := s.pc + 1#16, mem := s.mem.write (slot s 0#8) s.a, sp := s.sp - 1#8 } ∧
    Does [0x68#8] .pla s { loadedA s 1#16 (s.mem.read (slot s 1#8)) with sp := s.sp + 1#8 }

/-- PHP pushes the packed status, whose bit 4 is B or 1 by the parameter `PhpBreakBit`; PLP loads all seven flags, B
among them, from the pulled byte (R27, R28, R231, R233; the layout and the B bit are decisions D7 to D9). -/
def Obligations.PhpPlpMoveStatus : Prop :=
  ∀ s : State,
    Does [0x08#8] .php s
      { s with
        pc := s.pc + 1#16, sp := s.sp - 1#8
        mem := s.mem.write (slot s 0#8) (packed s (s.b || decide (s.params.phpBreakBit = .alwaysOne))) } ∧
    Does [0x28#8] .plp s
      { unpacked s (s.mem.read (slot s 1#8)) with pc := s.pc + 1#16, sp := s.sp + 1#8 }

/-- PHP followed by PLP restores every flag but B and leaves SP as it was; B is restored under the default
`PhpBreakBit` and set under the other value (R231, R233; the parameter is the spec's decision D8, the loading of B its
decision D9). -/
def Obligations.PlpUndoesPhp : Prop :=
  ∀ s : State, s.mem.wf = true →
    ∃ t, exec .php s = .next t ∧
      (s.params.phpBreakBit = .stored → exec .plp t = .next { s with pc := s.pc + 2#16, mem := t.mem }) ∧
      (s.params.phpBreakBit = .alwaysOne →
        exec .plp t = .next { s with pc := s.pc + 2#16, mem := t.mem, b := true })

/-- The seven flag instructions (R234 to R240) and NOP (R241). -/
def Obligations.FlagInstructionsAndNop : Prop :=
  ∀ s : State,
    Does [0x18#8] .clc s { s with pc := s.pc + 1#16, c := false } ∧
    Does [0xD8#8] .cld s { s with pc := s.pc + 1#16, d := false } ∧
    Does [0x58#8] .cli s { s with pc := s.pc + 1#16, i := false } ∧
    Does [0xB8#8] .clv s { s with pc := s.pc + 1#16, v := false } ∧
    Does [0x38#8] .sec s { s with pc := s.pc + 1#16, c := true } ∧
    Does [0xF8#8] .sed s { s with pc := s.pc + 1#16, d := true } ∧
    Does [0x78#8] .sei s { s with pc := s.pc + 1#16, i := true } ∧
    Does [0xEA#8] .nop s { s with pc := s.pc + 1#16 }

/-- Each of the 105 undefined bytes appends (address, byte) to DiagLog, leaves PC one past it, and changes nothing else
(R253; the entry's content is the spec's decision D15, the PC its decision D14). -/
def Obligations.UndefinedBytesAreDiagnosed : Prop :=
  ∀ (s : State) (op : Byte), op ∈ undefinedBytes →
    Does [op] (.undefined op) s
      { s with pc := s.pc + 1#16, diagLog := s.diagLog ++ [{ addr := s.pc, op := op }] }

/-! ## Frames and whole-machine rules -/

/-- Whatever the instruction, every byte of memory outside the addresses it stores to reads as before; the addresses
are computed by the function its meaning uses (R37, R64). -/
def Obligations.MemoryChangesOnlyWhereStored : Prop :=
  ∀ (i : Instr) (s t : State), exec i s = .next t →
    ∀ addr : Addr, addr ∉ i.storedAddresses s → t.mem.read addr = s.mem.read addr

/-- After STA, STX or STY, in every form, the byte at the effective address is the register stored, and so for PHA at
its stack slot (R64, R153 to R155, R230). -/
def Obligations.StoredByteReadsBack : Prop :=
  ∀ (i : Instr) (s t : State) (m : MemOperand), s.mem.wf = true → exec i s = .next t →
    (i.mnemonic = .sta → i.memOperand = some m → t.mem.read (effectiveAddress s m) = s.a) ∧
    (i.mnemonic = .stx → i.memOperand = some m → t.mem.read (effectiveAddress s m) = s.x) ∧
    (i.mnemonic = .sty → i.memOperand = some m → t.mem.read (effectiveAddress s m) = s.y) ∧
    (i = .pha → t.mem.read (stackAddr s.sp) = s.a)

/-- No instruction but the listed ones writes A, X, Y or SP (R24, R26), none writes LoopState or PauseReq (R251), and only an
undefined byte adds to DiagLog (R40). -/
def Obligations.RegistersChangeOnlyByWriters : Prop :=
  ∀ (i : Instr) (s t : State), exec i s = .next t →
    (i.writesA = false → t.a = s.a) ∧ (i.mnemonic ∉ writersX → t.x = s.x) ∧
    (i.mnemonic ∉ writersY → t.y = s.y) ∧ (i.mnemonic ∉ writersSP → t.sp = s.sp) ∧
    t.loopState = s.loopState ∧ t.pauseReq = s.pauseReq ∧ (i.mnemonic ≠ .undefined → t.diagLog = s.diagLog)

/-- No instruction but the listed ones writes a flag (R29 to R35). -/
def Obligations.FlagsChangeOnlyByWriters : Prop :=
  ∀ (i : Instr) (s t : State), exec i s = .next t →
    (i.mnemonic ∉ writersNZ → t.n = s.n ∧ t.z = s.z) ∧ (i.mnemonic ∉ writersV → t.v = s.v) ∧
    (i.mnemonic ∉ writersB → t.b = s.b) ∧ (i.mnemonic ∉ writersD → t.d = s.d) ∧
    (i.mnemonic ∉ writersI → t.i = s.i) ∧ (i.mnemonic ∉ writersC → t.c = s.c)

/-- No instruction but the listed ones reads N, V, Z or C: for any other, changing the flag changes nothing of the
result but the flag, and that only where the instruction does not write it (R29, R30, R34, R35). -/
def Obligations.FlagsMatterOnlyToReaders : Prop :=
  ∀ (i : Instr) (s t : State) (f : Bool), exec i s = .next t →
    (i.mnemonic ∉ readersN →
      exec i { s with n := f } = .next { t with n := if i.mnemonic ∈ writersNZ then t.n else f }) ∧
    (i.mnemonic ∉ readersV →
      exec i { s with v := f } = .next { t with v := if i.mnemonic ∈ writersV then t.v else f }) ∧
    (i.mnemonic ∉ readersZ →
      exec i { s with z := f } = .next { t with z := if i.mnemonic ∈ writersNZ then t.z else f }) ∧
    (i.mnemonic ∉ readersC →
      exec i { s with c := f } = .next { t with c := if i.mnemonic ∈ writersC then t.c else f })

/-- D and I are stored only: PHP alone reads them, and for every other instruction, ADC and SBC among them, changing
one changes nothing but the flag itself (D: R32, R186; I: R33, whose "gates nothing" is the spec's decision D27, log
entry 22); the same holds of B in `exec` (R31). -/
def Obligations.DecimalAndInterruptAreStoredOnly : Prop :=
  ∀ (i : Instr) (s t : State) (f : Bool), exec i s = .next t → i.mnemonic ≠ .php →
    exec i { s with d := f } = .next { t with d := if i.mnemonic ∈ writersD then t.d else f } ∧
    exec i { s with i := f } = .next { t with i := if i.mnemonic ∈ writersI then t.i else f } ∧
    exec i { s with b := f } = .next { t with b := if i.mnemonic ∈ writersB then t.b else f }

/-- Executing an instruction neither reads nor writes LoopState and PauseReq (R251). -/
def Obligations.LoopStateInvisibleToInstructions : Prop :=
  ∀ (i : Instr) (s t : State) (l : LoopState) (p : Bool), exec i s = .next t →
    exec i { s with loopState := l, pauseReq := p } = .next { t with loopState := l, pauseReq := p }

/-- Every instruction but a control transfer leaves PC at the byte after its own bytes, modulo 2^16 (R25, R69). -/
def Obligations.PcMovesPastTheInstruction : Prop :=
  ∀ (i : Instr) (s t : State), exec i s = .next t → i.mnemonic ∉ controlTransfers →
    t.pc = s.pc + BitVec.ofNat 16 (encode i).length

/-- Every push lands in page 1, whatever SP is: PHA, PHP and JSR execute, and every byte of memory they change stands
from $0100 to $01FF (R68; the wrap is the spec's decision D3). -/
def Obligations.StackStaysInPageOne : Prop :=
  ∀ (i : Instr) (s : State), i.mnemonic ∈ [.pha, .php, .jsr] →
    ∃ t, exec i s = .next t ∧
      ∀ addr : Addr, t.mem.read addr ≠ s.mem.read addr → 0x0100 ≤ addr.toNat ∧ addr.toNat ≤ 0x01FF

/-- No event, a loop step or any host request, ever changes the parameters: they are constants of the machine (R20,
R7). -/
def Obligations.ParametersNeverChange : Prop :=
  ∀ (e : Event) (s t : State), react e s = .next t → t.params = s.params
end

