-- ==== Sys2Proof/Laws/Decode.lean ====
section
/-! SUPPORT. Byte order, and the decoder over a window of three bytes, which is what the machine fetches. -/

namespace Sys2Proof

/-- The two bytes of a 16-bit value put together again. -/
@[simp] theorem word_loByte_hiByte (w : Addr) : word (loByte w) (hiByte w) = w := by
  ext k hk
  by_cases h : k < 8
  · simp [word, loByte, hiByte, h, BitVec.getLsbD_eq_getElem, hk]
  · simp only [word, loByte, hiByte, BitVec.getElem_or, BitVec.getElem_shiftLeft, BitVec.getElem_setWidth,
      BitVec.getLsbD_setWidth, BitVec.getLsbD_ushiftRight, h, decide_false, Bool.not_false, Bool.true_and,
      Bool.false_and, Bool.or_false]
    rw [decide_eq_true (show k - 8 < 8 by omega), Bool.true_and, show 8 + (k - 8) = k by omega,
      BitVec.getLsbD_eq_getElem]

/-- The low byte of a word. -/
@[simp] theorem loByte_word (lo hi : Byte) : loByte (word lo hi) = lo := by
  ext k hk
  simp [word, loByte]

/-- The high byte of a word. -/
@[simp] theorem hiByte_word (lo hi : Byte) : hiByte (word lo hi) = hi := by
  ext k hk
  simp [word, hiByte, hk, show 8 + k < 16 by omega]

/-- The dispatch table has an entry for every byte value (R250). -/
theorem dispatchTable_length : dispatchTable.length = 256 := by
  simp only [dispatchTable, List.length_append]
  rfl

/-- Three bytes always hold an instruction: the one of the window. -/
theorem decode_window (b0 b1 b2 : Byte) (rest : List Byte) :
    ∃ left, decode (b0 :: b1 :: b2 :: rest) = .ok (decodeWindow b0 b1 b2, left) := by
  simp only [decode, decodeWindow]
  cases dispatch b0 <;> exact ⟨_, rfl⟩

/-- What decodes from a window is what the window holds. -/
theorem decodeWindow_of_decode {b0 b1 b2 : Byte} {rest left : List Byte} {i : Instr}
    (h : decode (b0 :: b1 :: b2 :: rest) = .ok (i, left)) : decodeWindow b0 b1 b2 = i := by
  obtain ⟨left', h'⟩ := decode_window b0 b1 b2 rest
  rw [h'] at h
  exact (Prod.mk.inj (Except.ok.inj h)).1

end Sys2Proof
end

