-- ==== Sys2Proof/Laws/Memory.lean ====
section
/-! SUPPORT. Memory: a write is read back, leaves every other address alone, and keeps the canonical form. -/

namespace Sys2Proof.Machine

/-! ## Cells -/

theorem Memory.readCell_writeCell_ne {k j : Nat} (h : j ≠ k) (m : Memory) (v : Byte) :
    Memory.readCell (Memory.writeCell m k v) j = Memory.readCell m j := by
  induction m with
  | nil =>
    simp only [Memory.writeCell]
    split <;> simp [Memory.readCell, h]
  | cons cell m ih =>
    obtain ⟨k', v'⟩ := cell
    simp only [Memory.writeCell]
    split
    · split <;> simp [Memory.readCell, h]
    · split
      · subst k'
        split <;> simp [Memory.readCell, h]
      · simp only [Memory.readCell, ih]

theorem Memory.wfFrom_le {lo lo' : Nat} (hle : lo' ≤ lo) {m : Memory} (h : Memory.wfFrom lo m = true) :
    Memory.wfFrom lo' m = true := by
  cases m with
  | nil => rfl
  | cons cell m =>
    obtain ⟨k, v⟩ := cell
    simp only [Memory.wfFrom, Bool.and_eq_true, decide_eq_true_eq] at h ⊢
    exact ⟨⟨⟨by omega, h.1.1.2⟩, h.1.2⟩, h.2⟩

/-- Below the first key of a canonical list nothing is listed. -/
theorem Memory.readCell_of_lt {lo k : Nat} {m : Memory} (h : Memory.wfFrom lo m = true) (hk : k < lo) :
    Memory.readCell m k = Memory.unlisted := by
  induction m generalizing lo with
  | nil => rfl
  | cons cell m ih =>
    obtain ⟨k', v'⟩ := cell
    simp only [Memory.wfFrom, Bool.and_eq_true, decide_eq_true_eq] at h
    simp only [Memory.readCell, if_neg (show k ≠ k' by omega)]
    exact ih h.2 (by omega)

theorem Memory.readCell_writeCell_same {lo k : Nat} {m : Memory} (h : Memory.wfFrom lo m = true) (v : Byte) :
    Memory.readCell (Memory.writeCell m k v) k = v := by
  induction m generalizing lo with
  | nil =>
    simp only [Memory.writeCell]
    split
    · simp_all [Memory.readCell]
    · simp [Memory.readCell]
  | cons cell m ih =>
    obtain ⟨k', v'⟩ := cell
    simp only [Memory.wfFrom, Bool.and_eq_true, decide_eq_true_eq] at h
    simp only [Memory.writeCell]
    split
    next hlt =>
      split
      next hv =>
        simp only [Memory.readCell, if_neg (show k ≠ k' by omega), hv]
        exact Memory.readCell_of_lt h.2 (by omega)
      next => simp [Memory.readCell]
    next =>
      split
      next hk =>
        subst hk
        split
        next hv => rw [hv]; exact Memory.readCell_of_lt h.2 (by omega)
        next => simp [Memory.readCell]
      next hk =>
        simp only [Memory.readCell, if_neg hk]
        exact ih h.2

theorem Memory.wfFrom_writeCell {lo k : Nat} (hlo : lo ≤ k) (hk : k < 65536) {m : Memory}
    (h : Memory.wfFrom lo m = true) (v : Byte) : Memory.wfFrom lo (Memory.writeCell m k v) = true := by
  induction m generalizing lo with
  | nil =>
    simp only [Memory.writeCell]
    split <;> simp_all [Memory.wfFrom]
  | cons cell m ih =>
    obtain ⟨k', v'⟩ := cell
    have hc := h
    simp only [Memory.wfFrom, Bool.and_eq_true, decide_eq_true_eq] at h
    simp only [Memory.writeCell]
    split
    next hlt =>
      split
      next => exact hc
      next hv =>
        simp only [Memory.wfFrom, Bool.and_eq_true, decide_eq_true_eq]
        exact ⟨⟨⟨hlo, hk⟩, hv⟩, ⟨⟨by omega, h.1.1.2⟩, h.1.2⟩, h.2⟩
    next =>
      split
      next he =>
        subst he
        split
        next => exact Memory.wfFrom_le (by omega) h.2
        next hv =>
          simp only [Memory.wfFrom, Bool.and_eq_true, decide_eq_true_eq]
          exact ⟨⟨⟨hlo, hk⟩, hv⟩, h.2⟩
      next he =>
        simp only [Memory.wfFrom, Bool.and_eq_true, decide_eq_true_eq]
        exact ⟨h.1, ih (by omega) h.2⟩

/-! ## Addresses -/

/-- A read after a write to another address (R64). -/
theorem Memory.read_write_ne {addr j : Addr} (h : j ≠ addr) (m : Memory) (v : Byte) :
    (m.write addr v).read j = m.read j :=
  Memory.readCell_writeCell_ne (fun e => h (BitVec.eq_of_toNat_eq e)) m v

/-- A read after a write to the same address (R64). -/
theorem Memory.read_write_same {m : Memory} (h : m.wf = true) (addr : Addr) (v : Byte) :
    (m.write addr v).read addr = v :=
  Memory.readCell_writeCell_same h v

/-- A write keeps the canonical form. -/
theorem Memory.wf_write {m : Memory} (h : m.wf = true) (addr : Addr) (v : Byte) : (m.write addr v).wf = true :=
  Memory.wfFrom_writeCell (Nat.zero_le _) addr.isLt h v

/-- Writing a run of bytes keeps the canonical form. -/
theorem Memory.wf_writeBytes {m : Memory} (h : m.wf = true) (addr : Addr) (vs : List Byte) :
    (m.writeBytes addr vs).wf = true := by
  induction vs generalizing m addr with
  | nil => exact h
  | cons v vs ih => exact ih (Memory.wf_write h addr v) _

/-- The empty memory, which reset leaves, is canonical and reads as unlisted everywhere. -/
theorem Memory.wf_nil : Memory.wf [] = true := rfl

@[simp] theorem Memory.read_nil (addr : Addr) : Memory.read [] addr = 0x00#8 := rfl

/-- Canonical lists that read alike from `lo` on are one list. -/
theorem Memory.eq_of_readCell {m m' : Memory} {lo : Nat} (h : Memory.wfFrom lo m = true)
    (h' : Memory.wfFrom lo m' = true) (hr : ∀ k, lo ≤ k → Memory.readCell m k = Memory.readCell m' k) : m = m' := by
  induction m generalizing m' lo with
  | nil =>
    cases m' with
    | nil => rfl
    | cons cell m' =>
      obtain ⟨k, v⟩ := cell
      simp only [Memory.wfFrom, Bool.and_eq_true, decide_eq_true_eq] at h'
      have := hr k h'.1.1.1
      simp only [Memory.readCell, if_true] at this
      exact absurd this.symm h'.1.2
  | cons cell m ih =>
    obtain ⟨k, v⟩ := cell
    simp only [Memory.wfFrom, Bool.and_eq_true, decide_eq_true_eq] at h
    cases m' with
    | nil =>
      have := hr k h.1.1.1
      simp only [Memory.readCell, if_true] at this
      exact absurd this h.1.2
    | cons cell' m' =>
      obtain ⟨k', v'⟩ := cell'
      simp only [Memory.wfFrom, Bool.and_eq_true, decide_eq_true_eq] at h'
      have hkk : k = k' := by
        rcases Nat.lt_trichotomy k k' with hlt | heq | hgt
        · have := hr k h.1.1.1
          simp only [Memory.readCell, if_true, if_neg (show k ≠ k' by omega)] at this
          exact absurd (this.trans (Memory.readCell_of_lt h'.2 (by omega))) h.1.2
        · exact heq
        · have := hr k' h'.1.1.1
          simp only [Memory.readCell, if_true, if_neg (show k' ≠ k by omega)] at this
          exact absurd (this.symm.trans (Memory.readCell_of_lt h.2 (by omega))) h'.1.2
      subst hkk
      have hv := hr k h.1.1.1
      simp only [Memory.readCell, if_true] at hv
      rw [hv, ih h.2 h'.2 fun j hj => by
        have := hr j (by omega)
        simpa only [Memory.readCell, if_neg (show j ≠ k by omega)] using this]

/-- Equal memories are equal data: canonical memories that read alike are one list. -/
theorem Memory.ext_read {m m' : Memory} (h : m.wf = true) (h' : m'.wf = true)
    (hr : ∀ addr : Addr, m.read addr = m'.read addr) : m = m' :=
  Memory.eq_of_readCell h h' fun k _ => by
    by_cases hk : k < 65536
    · have := hr (BitVec.ofNat 16 k)
      simpa only [Memory.read, BitVec.toNat_ofNat, Nat.mod_eq_of_lt (show k < 2 ^ 16 from hk)] using this
    · have big : ∀ {n : Memory} {lo : Nat}, Memory.wfFrom lo n = true → Memory.readCell n k = Memory.unlisted := by
        intro n
        induction n with
        | nil => intro _ _; rfl
        | cons cell n ihn =>
          obtain ⟨j, u⟩ := cell
          intro lo hn
          simp only [Memory.wfFrom, Bool.and_eq_true, decide_eq_true_eq] at hn
          simp only [Memory.readCell, if_neg (show k ≠ j by omega)]
          exact ihn hn.2
      rw [big h, big h']

end Sys2Proof.Machine
end

