-- ==== Sys2Proof/Laws/PerInstr.lean ====
section
/-! SUPPORT. Facts about every instruction as syntax, one lemma a constructor. -/

namespace Sys2Proof.Laws.Lengths

/-- The encoding has as many bytes as the addressing mode says (R91, R93). -/
def Statement (i : Instr) : Prop := (encode i).length = i.length

theorem ldaImmediate (v : Byte) : Statement (.ldaImmediate v) := rfl
theorem ldaZeroPage (z : Byte) : Statement (.ldaZeroPage z) := rfl
theorem ldaZeroPageX (z : Byte) : Statement (.ldaZeroPageX z) := rfl
theorem ldaAbsolute (w : Addr) : Statement (.ldaAbsolute w) := rfl
theorem ldaAbsoluteX (w : Addr) : Statement (.ldaAbsoluteX w) := rfl
theorem ldaAbsoluteY (w : Addr) : Statement (.ldaAbsoluteY w) := rfl
theorem ldaIndirectX (z : Byte) : Statement (.ldaIndirectX z) := rfl
theorem ldaIndirectY (z : Byte) : Statement (.ldaIndirectY z) := rfl
theorem ldxImmediate (v : Byte) : Statement (.ldxImmediate v) := rfl
theorem ldxZeroPage (z : Byte) : Statement (.ldxZeroPage z) := rfl
theorem ldxZeroPageY (z : Byte) : Statement (.ldxZeroPageY z) := rfl
theorem ldxAbsolute (w : Addr) : Statement (.ldxAbsolute w) := rfl
theorem ldxAbsoluteY (w : Addr) : Statement (.ldxAbsoluteY w) := rfl
theorem ldyImmediate (v : Byte) : Statement (.ldyImmediate v) := rfl
theorem ldyZeroPage (z : Byte) : Statement (.ldyZeroPage z) := rfl
theorem ldyZeroPageX (z : Byte) : Statement (.ldyZeroPageX z) := rfl
theorem ldyAbsolute (w : Addr) : Statement (.ldyAbsolute w) := rfl
theorem ldyAbsoluteX (w : Addr) : Statement (.ldyAbsoluteX w) := rfl
theorem staZeroPage (z : Byte) : Statement (.staZeroPage z) := rfl
theorem staZeroPageX (z : Byte) : Statement (.staZeroPageX z) := rfl
theorem staAbsolute (w : Addr) : Statement (.staAbsolute w) := rfl
theorem staAbsoluteX (w : Addr) : Statement (.staAbsoluteX w) := rfl
theorem staAbsoluteY (w : Addr) : Statement (.staAbsoluteY w) := rfl
theorem staIndirectX (z : Byte) : Statement (.staIndirectX z) := rfl
theorem staIndirectY (z : Byte) : Statement (.staIndirectY z) := rfl
theorem stxZeroPage (z : Byte) : Statement (.stxZeroPage z) := rfl
theorem stxZeroPageY (z : Byte) : Statement (.stxZeroPageY z) := rfl
theorem stxAbsolute (w : Addr) : Statement (.stxAbsolute w) := rfl
theorem styZeroPage (z : Byte) : Statement (.styZeroPage z) := rfl
theorem styZeroPageX (z : Byte) : Statement (.styZeroPageX z) := rfl
theorem styAbsolute (w : Addr) : Statement (.styAbsolute w) := rfl
theorem tax : Statement (.tax) := rfl
theorem tay : Statement (.tay) := rfl
theorem txa : Statement (.txa) := rfl
theorem tya : Statement (.tya) := rfl
theorem tsx : Statement (.tsx) := rfl
theorem txs : Statement (.txs) := rfl
theorem adcImmediate (v : Byte) : Statement (.adcImmediate v) := rfl
theorem adcZeroPage (z : Byte) : Statement (.adcZeroPage z) := rfl
theorem adcZeroPageX (z : Byte) : Statement (.adcZeroPageX z) := rfl
theorem adcAbsolute (w : Addr) : Statement (.adcAbsolute w) := rfl
theorem adcAbsoluteX (w : Addr) : Statement (.adcAbsoluteX w) := rfl
theorem adcAbsoluteY (w : Addr) : Statement (.adcAbsoluteY w) := rfl
theorem adcIndirectX (z : Byte) : Statement (.adcIndirectX z) := rfl
theorem adcIndirectY (z : Byte) : Statement (.adcIndirectY z) := rfl
theorem sbcImmediate (v : Byte) : Statement (.sbcImmediate v) := rfl
theorem sbcZeroPage (z : Byte) : Statement (.sbcZeroPage z) := rfl
theorem sbcZeroPageX (z : Byte) : Statement (.sbcZeroPageX z) := rfl
theorem sbcAbsolute (w : Addr) : Statement (.sbcAbsolute w) := rfl
theorem sbcAbsoluteX (w : Addr) : Statement (.sbcAbsoluteX w) := rfl
theorem sbcAbsoluteY (w : Addr) : Statement (.sbcAbsoluteY w) := rfl
theorem sbcIndirectX (z : Byte) : Statement (.sbcIndirectX z) := rfl
theorem sbcIndirectY (z : Byte) : Statement (.sbcIndirectY z) := rfl
theorem andImmediate (v : Byte) : Statement (.andImmediate v) := rfl
theorem andZeroPage (z : Byte) : Statement (.andZeroPage z) := rfl
theorem andZeroPageX (z : Byte) : Statement (.andZeroPageX z) := rfl
theorem andAbsolute (w : Addr) : Statement (.andAbsolute w) := rfl
theorem andAbsoluteX (w : Addr) : Statement (.andAbsoluteX w) := rfl
theorem andAbsoluteY (w : Addr) : Statement (.andAbsoluteY w) := rfl
theorem andIndirectX (z : Byte) : Statement (.andIndirectX z) := rfl
theorem andIndirectY (z : Byte) : Statement (.andIndirectY z) := rfl
theorem oraImmediate (v : Byte) : Statement (.oraImmediate v) := rfl
theorem oraZeroPage (z : Byte) : Statement (.oraZeroPage z) := rfl
theorem oraZeroPageX (z : Byte) : Statement (.oraZeroPageX z) := rfl
theorem oraAbsolute (w : Addr) : Statement (.oraAbsolute w) := rfl
theorem oraAbsoluteX (w : Addr) : Statement (.oraAbsoluteX w) := rfl
theorem oraAbsoluteY (w : Addr) : Statement (.oraAbsoluteY w) := rfl
theorem oraIndirectX (z : Byte) : Statement (.oraIndirectX z) := rfl
theorem oraIndirectY (z : Byte) : Statement (.oraIndirectY z) := rfl
theorem eorImmediate (v : Byte) : Statement (.eorImmediate v) := rfl
theorem eorZeroPage (z : Byte) : Statement (.eorZeroPage z) := rfl
theorem eorZeroPageX (z : Byte) : Statement (.eorZeroPageX z) := rfl
theorem eorAbsolute (w : Addr) : Statement (.eorAbsolute w) := rfl
theorem eorAbsoluteX (w : Addr) : Statement (.eorAbsoluteX w) := rfl
theorem eorAbsoluteY (w : Addr) : Statement (.eorAbsoluteY w) := rfl
theorem eorIndirectX (z : Byte) : Statement (.eorIndirectX z) := rfl
theorem eorIndirectY (z : Byte) : Statement (.eorIndirectY z) := rfl
theorem cmpImmediate (v : Byte) : Statement (.cmpImmediate v) := rfl
theorem cmpZeroPage (z : Byte) : Statement (.cmpZeroPage z) := rfl
theorem cmpZeroPageX (z : Byte) : Statement (.cmpZeroPageX z) := rfl
theorem cmpAbsolute (w : Addr) : Statement (.cmpAbsolute w) := rfl
theorem cmpAbsoluteX (w : Addr) : Statement (.cmpAbsoluteX w) := rfl
theorem cmpAbsoluteY (w : Addr) : Statement (.cmpAbsoluteY w) := rfl
theorem cmpIndirectX (z : Byte) : Statement (.cmpIndirectX z) := rfl
theorem cmpIndirectY (z : Byte) : Statement (.cmpIndirectY z) := rfl
theorem cpxImmediate (v : Byte) : Statement (.cpxImmediate v) := rfl
theorem cpxZeroPage (z : Byte) : Statement (.cpxZeroPage z) := rfl
theorem cpxAbsolute (w : Addr) : Statement (.cpxAbsolute w) := rfl
theorem cpyImmediate (v : Byte) : Statement (.cpyImmediate v) := rfl
theorem cpyZeroPage (z : Byte) : Statement (.cpyZeroPage z) := rfl
theorem cpyAbsolute (w : Addr) : Statement (.cpyAbsolute w) := rfl
theorem bitZeroPage (z : Byte) : Statement (.bitZeroPage z) := rfl
theorem bitAbsolute (w : Addr) : Statement (.bitAbsolute w) := rfl
theorem incZeroPage (z : Byte) : Statement (.incZeroPage z) := rfl
theorem incZeroPageX (z : Byte) : Statement (.incZeroPageX z) := rfl
theorem incAbsolute (w : Addr) : Statement (.incAbsolute w) := rfl
theorem incAbsoluteX (w : Addr) : Statement (.incAbsoluteX w) := rfl
theorem decZeroPage (z : Byte) : Statement (.decZeroPage z) := rfl
theorem decZeroPageX (z : Byte) : Statement (.decZeroPageX z) := rfl
theorem decAbsolute (w : Addr) : Statement (.decAbsolute w) := rfl
theorem decAbsoluteX (w : Addr) : Statement (.decAbsoluteX w) := rfl
theorem inx : Statement (.inx) := rfl
theorem iny : Statement (.iny) := rfl
theorem dex : Statement (.dex) := rfl
theorem dey : Statement (.dey) := rfl
theorem aslAccumulator : Statement (.aslAccumulator) := rfl
theorem aslZeroPage (z : Byte) : Statement (.aslZeroPage z) := rfl
theorem aslZeroPageX (z : Byte) : Statement (.aslZeroPageX z) := rfl
theorem aslAbsolute (w : Addr) : Statement (.aslAbsolute w) := rfl
theorem aslAbsoluteX (w : Addr) : Statement (.aslAbsoluteX w) := rfl
theorem lsrAccumulator : Statement (.lsrAccumulator) := rfl
theorem lsrZeroPage (z : Byte) : Statement (.lsrZeroPage z) := rfl
theorem lsrZeroPageX (z : Byte) : Statement (.lsrZeroPageX z) := rfl
theorem lsrAbsolute (w : Addr) : Statement (.lsrAbsolute w) := rfl
theorem lsrAbsoluteX (w : Addr) : Statement (.lsrAbsoluteX w) := rfl
theorem rolAccumulator : Statement (.rolAccumulator) := rfl
theorem rolZeroPage (z : Byte) : Statement (.rolZeroPage z) := rfl
theorem rolZeroPageX (z : Byte) : Statement (.rolZeroPageX z) := rfl
theorem rolAbsolute (w : Addr) : Statement (.rolAbsolute w) := rfl
theorem rolAbsoluteX (w : Addr) : Statement (.rolAbsoluteX w) := rfl
theorem rorAccumulator : Statement (.rorAccumulator) := rfl
theorem rorZeroPage (z : Byte) : Statement (.rorZeroPage z) := rfl
theorem rorZeroPageX (z : Byte) : Statement (.rorZeroPageX z) := rfl
theorem rorAbsolute (w : Addr) : Statement (.rorAbsolute w) := rfl
theorem rorAbsoluteX (w : Addr) : Statement (.rorAbsoluteX w) := rfl
theorem bcc (d : Byte) : Statement (.bcc d) := rfl
theorem bcs (d : Byte) : Statement (.bcs d) := rfl
theorem beq (d : Byte) : Statement (.beq d) := rfl
theorem bne (d : Byte) : Statement (.bne d) := rfl
theorem bmi (d : Byte) : Statement (.bmi d) := rfl
theorem bpl (d : Byte) : Statement (.bpl d) := rfl
theorem bvc (d : Byte) : Statement (.bvc d) := rfl
theorem bvs (d : Byte) : Statement (.bvs d) := rfl
theorem jmpAbsolute (w : Addr) : Statement (.jmpAbsolute w) := rfl
theorem jmpIndirect (w : Addr) : Statement (.jmpIndirect w) := rfl
theorem jsr (w : Addr) : Statement (.jsr w) := rfl
theorem rts : Statement (.rts) := rfl
theorem rti : Statement (.rti) := rfl
theorem brk : Statement (.brk) := rfl
theorem pha : Statement (.pha) := rfl
theorem php : Statement (.php) := rfl
theorem pla : Statement (.pla) := rfl
theorem plp : Statement (.plp) := rfl
theorem clc : Statement (.clc) := rfl
theorem cld : Statement (.cld) := rfl
theorem cli : Statement (.cli) := rfl
theorem clv : Statement (.clv) := rfl
theorem sec : Statement (.sec) := rfl
theorem sed : Statement (.sed) := rfl
theorem sei : Statement (.sei) := rfl
theorem nop : Statement (.nop) := rfl
theorem undefined (op : Byte) : Statement (.undefined op) := rfl

end Sys2Proof.Laws.Lengths
end

