-- ==== Sys2Proof/Laws/State.lean ====
section
/-! SUPPORT. One lemma per field for every operation that updates the state, so that no proof unfolds an update. -/

namespace Sys2Proof.Machine

@[simp] theorem State.advance_a (s : State) (len : Addr) : (s.advance len).a = s.a := rfl
@[simp] theorem State.advance_x (s : State) (len : Addr) : (s.advance len).x = s.x := rfl
@[simp] theorem State.advance_y (s : State) (len : Addr) : (s.advance len).y = s.y := rfl
@[simp] theorem State.advance_pc (s : State) (len : Addr) : (s.advance len).pc = s.pc + len := rfl
@[simp] theorem State.advance_sp (s : State) (len : Addr) : (s.advance len).sp = s.sp := rfl
@[simp] theorem State.advance_n (s : State) (len : Addr) : (s.advance len).n = s.n := rfl
@[simp] theorem State.advance_v (s : State) (len : Addr) : (s.advance len).v = s.v := rfl
@[simp] theorem State.advance_b (s : State) (len : Addr) : (s.advance len).b = s.b := rfl
@[simp] theorem State.advance_d (s : State) (len : Addr) : (s.advance len).d = s.d := rfl
@[simp] theorem State.advance_i (s : State) (len : Addr) : (s.advance len).i = s.i := rfl
@[simp] theorem State.advance_z (s : State) (len : Addr) : (s.advance len).z = s.z := rfl
@[simp] theorem State.advance_c (s : State) (len : Addr) : (s.advance len).c = s.c := rfl
@[simp] theorem State.advance_mem (s : State) (len : Addr) : (s.advance len).mem = s.mem := rfl
@[simp] theorem State.advance_loopState (s : State) (len : Addr) : (s.advance len).loopState = s.loopState := rfl
@[simp] theorem State.advance_pauseReq (s : State) (len : Addr) : (s.advance len).pauseReq = s.pauseReq := rfl
@[simp] theorem State.advance_diagLog (s : State) (len : Addr) : (s.advance len).diagLog = s.diagLog := rfl
@[simp] theorem State.advance_params (s : State) (len : Addr) : (s.advance len).params = s.params := rfl

@[simp] theorem State.setNZ_a (s : State) (r : Byte) : (s.setNZ r).a = s.a := rfl
@[simp] theorem State.setNZ_x (s : State) (r : Byte) : (s.setNZ r).x = s.x := rfl
@[simp] theorem State.setNZ_y (s : State) (r : Byte) : (s.setNZ r).y = s.y := rfl
@[simp] theorem State.setNZ_pc (s : State) (r : Byte) : (s.setNZ r).pc = s.pc := rfl
@[simp] theorem State.setNZ_sp (s : State) (r : Byte) : (s.setNZ r).sp = s.sp := rfl
@[simp] theorem State.setNZ_n (s : State) (r : Byte) : (s.setNZ r).n = r.msb := rfl
@[simp] theorem State.setNZ_v (s : State) (r : Byte) : (s.setNZ r).v = s.v := rfl
@[simp] theorem State.setNZ_b (s : State) (r : Byte) : (s.setNZ r).b = s.b := rfl
@[simp] theorem State.setNZ_d (s : State) (r : Byte) : (s.setNZ r).d = s.d := rfl
@[simp] theorem State.setNZ_i (s : State) (r : Byte) : (s.setNZ r).i = s.i := rfl
@[simp] theorem State.setNZ_z (s : State) (r : Byte) : (s.setNZ r).z = decide (r = 0x00#8) := rfl
@[simp] theorem State.setNZ_c (s : State) (r : Byte) : (s.setNZ r).c = s.c := rfl
@[simp] theorem State.setNZ_mem (s : State) (r : Byte) : (s.setNZ r).mem = s.mem := rfl
@[simp] theorem State.setNZ_loopState (s : State) (r : Byte) : (s.setNZ r).loopState = s.loopState := rfl
@[simp] theorem State.setNZ_pauseReq (s : State) (r : Byte) : (s.setNZ r).pauseReq = s.pauseReq := rfl
@[simp] theorem State.setNZ_diagLog (s : State) (r : Byte) : (s.setNZ r).diagLog = s.diagLog := rfl
@[simp] theorem State.setNZ_params (s : State) (r : Byte) : (s.setNZ r).params = s.params := rfl

@[simp] theorem State.compare_a (s : State) (reg m : Byte) : (s.compare reg m).a = s.a := rfl
@[simp] theorem State.compare_x (s : State) (reg m : Byte) : (s.compare reg m).x = s.x := rfl
@[simp] theorem State.compare_y (s : State) (reg m : Byte) : (s.compare reg m).y = s.y := rfl
@[simp] theorem State.compare_pc (s : State) (reg m : Byte) : (s.compare reg m).pc = s.pc := rfl
@[simp] theorem State.compare_sp (s : State) (reg m : Byte) : (s.compare reg m).sp = s.sp := rfl
@[simp] theorem State.compare_n (s : State) (reg m : Byte) : (s.compare reg m).n = (reg - m).msb := rfl
@[simp] theorem State.compare_v (s : State) (reg m : Byte) : (s.compare reg m).v = s.v := rfl
@[simp] theorem State.compare_b (s : State) (reg m : Byte) : (s.compare reg m).b = s.b := rfl
@[simp] theorem State.compare_d (s : State) (reg m : Byte) : (s.compare reg m).d = s.d := rfl
@[simp] theorem State.compare_i (s : State) (reg m : Byte) : (s.compare reg m).i = s.i := rfl
@[simp] theorem State.compare_z (s : State) (reg m : Byte) : (s.compare reg m).z = decide (reg = m) := rfl
@[simp] theorem State.compare_c (s : State) (reg m : Byte) : (s.compare reg m).c = decide (reg.toNat ≥ m.toNat) := rfl
@[simp] theorem State.compare_mem (s : State) (reg m : Byte) : (s.compare reg m).mem = s.mem := rfl
@[simp] theorem State.compare_loopState (s : State) (reg m : Byte) : (s.compare reg m).loopState = s.loopState := rfl
@[simp] theorem State.compare_pauseReq (s : State) (reg m : Byte) : (s.compare reg m).pauseReq = s.pauseReq := rfl
@[simp] theorem State.compare_diagLog (s : State) (reg m : Byte) : (s.compare reg m).diagLog = s.diagLog := rfl
@[simp] theorem State.compare_params (s : State) (reg m : Byte) : (s.compare reg m).params = s.params := rfl

@[simp] theorem State.unpackP_a (s : State) (p : Byte) : (s.unpackP p).a = s.a := rfl
@[simp] theorem State.unpackP_x (s : State) (p : Byte) : (s.unpackP p).x = s.x := rfl
@[simp] theorem State.unpackP_y (s : State) (p : Byte) : (s.unpackP p).y = s.y := rfl
@[simp] theorem State.unpackP_pc (s : State) (p : Byte) : (s.unpackP p).pc = s.pc := rfl
@[simp] theorem State.unpackP_sp (s : State) (p : Byte) : (s.unpackP p).sp = s.sp := rfl
@[simp] theorem State.unpackP_n (s : State) (p : Byte) : (s.unpackP p).n = p.getLsbD 7 := rfl
@[simp] theorem State.unpackP_v (s : State) (p : Byte) : (s.unpackP p).v = p.getLsbD 6 := rfl
@[simp] theorem State.unpackP_b (s : State) (p : Byte) : (s.unpackP p).b = p.getLsbD 4 := rfl
@[simp] theorem State.unpackP_d (s : State) (p : Byte) : (s.unpackP p).d = p.getLsbD 3 := rfl
@[simp] theorem State.unpackP_i (s : State) (p : Byte) : (s.unpackP p).i = p.getLsbD 2 := rfl
@[simp] theorem State.unpackP_z (s : State) (p : Byte) : (s.unpackP p).z = p.getLsbD 1 := rfl
@[simp] theorem State.unpackP_c (s : State) (p : Byte) : (s.unpackP p).c = p.getLsbD 0 := rfl
@[simp] theorem State.unpackP_mem (s : State) (p : Byte) : (s.unpackP p).mem = s.mem := rfl
@[simp] theorem State.unpackP_loopState (s : State) (p : Byte) : (s.unpackP p).loopState = s.loopState := rfl
@[simp] theorem State.unpackP_pauseReq (s : State) (p : Byte) : (s.unpackP p).pauseReq = s.pauseReq := rfl
@[simp] theorem State.unpackP_diagLog (s : State) (p : Byte) : (s.unpackP p).diagLog = s.diagLog := rfl
@[simp] theorem State.unpackP_params (s : State) (p : Byte) : (s.unpackP p).params = s.params := rfl

@[simp] theorem State.push_a (s : State) (u : Byte) : (s.push u).a = s.a := rfl
@[simp] theorem State.push_x (s : State) (u : Byte) : (s.push u).x = s.x := rfl
@[simp] theorem State.push_y (s : State) (u : Byte) : (s.push u).y = s.y := rfl
@[simp] theorem State.push_pc (s : State) (u : Byte) : (s.push u).pc = s.pc := rfl
@[simp] theorem State.push_sp (s : State) (u : Byte) : (s.push u).sp = s.sp - 1#8 := rfl
@[simp] theorem State.push_n (s : State) (u : Byte) : (s.push u).n = s.n := rfl
@[simp] theorem State.push_v (s : State) (u : Byte) : (s.push u).v = s.v := rfl
@[simp] theorem State.push_b (s : State) (u : Byte) : (s.push u).b = s.b := rfl
@[simp] theorem State.push_d (s : State) (u : Byte) : (s.push u).d = s.d := rfl
@[simp] theorem State.push_i (s : State) (u : Byte) : (s.push u).i = s.i := rfl
@[simp] theorem State.push_z (s : State) (u : Byte) : (s.push u).z = s.z := rfl
@[simp] theorem State.push_c (s : State) (u : Byte) : (s.push u).c = s.c := rfl
@[simp] theorem State.push_mem (s : State) (u : Byte) : (s.push u).mem = s.mem.write (stackAddr s.sp) u := rfl
@[simp] theorem State.push_loopState (s : State) (u : Byte) : (s.push u).loopState = s.loopState := rfl
@[simp] theorem State.push_pauseReq (s : State) (u : Byte) : (s.push u).pauseReq = s.pauseReq := rfl
@[simp] theorem State.push_diagLog (s : State) (u : Byte) : (s.push u).diagLog = s.diagLog := rfl
@[simp] theorem State.push_params (s : State) (u : Byte) : (s.push u).params = s.params := rfl

@[simp] theorem State.pulled_a (s : State) : s.pulled.a = s.a := rfl
@[simp] theorem State.pulled_x (s : State) : s.pulled.x = s.x := rfl
@[simp] theorem State.pulled_y (s : State) : s.pulled.y = s.y := rfl
@[simp] theorem State.pulled_pc (s : State) : s.pulled.pc = s.pc := rfl
@[simp] theorem State.pulled_sp (s : State) : s.pulled.sp = s.sp + 1#8 := rfl
@[simp] theorem State.pulled_n (s : State) : s.pulled.n = s.n := rfl
@[simp] theorem State.pulled_v (s : State) : s.pulled.v = s.v := rfl
@[simp] theorem State.pulled_b (s : State) : s.pulled.b = s.b := rfl
@[simp] theorem State.pulled_d (s : State) : s.pulled.d = s.d := rfl
@[simp] theorem State.pulled_i (s : State) : s.pulled.i = s.i := rfl
@[simp] theorem State.pulled_z (s : State) : s.pulled.z = s.z := rfl
@[simp] theorem State.pulled_c (s : State) : s.pulled.c = s.c := rfl
@[simp] theorem State.pulled_mem (s : State) : s.pulled.mem = s.mem := rfl
@[simp] theorem State.pulled_loopState (s : State) : s.pulled.loopState = s.loopState := rfl
@[simp] theorem State.pulled_pauseReq (s : State) : s.pulled.pauseReq = s.pauseReq := rfl
@[simp] theorem State.pulled_diagLog (s : State) : s.pulled.diagLog = s.diagLog := rfl
@[simp] theorem State.pulled_params (s : State) : s.pulled.params = s.params := rfl

@[simp] theorem State.diagnose_a (s : State) (addr : Addr) (op : Byte) : (s.diagnose addr op).a = s.a := rfl
@[simp] theorem State.diagnose_x (s : State) (addr : Addr) (op : Byte) : (s.diagnose addr op).x = s.x := rfl
@[simp] theorem State.diagnose_y (s : State) (addr : Addr) (op : Byte) : (s.diagnose addr op).y = s.y := rfl
@[simp] theorem State.diagnose_pc (s : State) (addr : Addr) (op : Byte) : (s.diagnose addr op).pc = s.pc := rfl
@[simp] theorem State.diagnose_sp (s : State) (addr : Addr) (op : Byte) : (s.diagnose addr op).sp = s.sp := rfl
@[simp] theorem State.diagnose_n (s : State) (addr : Addr) (op : Byte) : (s.diagnose addr op).n = s.n := rfl
@[simp] theorem State.diagnose_v (s : State) (addr : Addr) (op : Byte) : (s.diagnose addr op).v = s.v := rfl
@[simp] theorem State.diagnose_b (s : State) (addr : Addr) (op : Byte) : (s.diagnose addr op).b = s.b := rfl
@[simp] theorem State.diagnose_d (s : State) (addr : Addr) (op : Byte) : (s.diagnose addr op).d = s.d := rfl
@[simp] theorem State.diagnose_i (s : State) (addr : Addr) (op : Byte) : (s.diagnose addr op).i = s.i := rfl
@[simp] theorem State.diagnose_z (s : State) (addr : Addr) (op : Byte) : (s.diagnose addr op).z = s.z := rfl
@[simp] theorem State.diagnose_c (s : State) (addr : Addr) (op : Byte) : (s.diagnose addr op).c = s.c := rfl
@[simp] theorem State.diagnose_mem (s : State) (addr : Addr) (op : Byte) : (s.diagnose addr op).mem = s.mem := rfl
@[simp] theorem State.diagnose_loopState (s : State) (addr : Addr) (op : Byte) : (s.diagnose addr op).loopState = s.loopState := rfl
@[simp] theorem State.diagnose_pauseReq (s : State) (addr : Addr) (op : Byte) : (s.diagnose addr op).pauseReq = s.pauseReq := rfl
@[simp] theorem State.diagnose_diagLog (s : State) (addr : Addr) (op : Byte) : (s.diagnose addr op).diagLog = s.diagLog ++ [{ addr := addr, op := op }] := rfl
@[simp] theorem State.diagnose_params (s : State) (addr : Addr) (op : Byte) : (s.diagnose addr op).params = s.params := rfl

@[simp] theorem writeMem_a (s : State) (m : MemOperand) (u : Byte) : (writeMem s m u).a = s.a := rfl
@[simp] theorem writeMem_x (s : State) (m : MemOperand) (u : Byte) : (writeMem s m u).x = s.x := rfl
@[simp] theorem writeMem_y (s : State) (m : MemOperand) (u : Byte) : (writeMem s m u).y = s.y := rfl
@[simp] theorem writeMem_pc (s : State) (m : MemOperand) (u : Byte) : (writeMem s m u).pc = s.pc := rfl
@[simp] theorem writeMem_sp (s : State) (m : MemOperand) (u : Byte) : (writeMem s m u).sp = s.sp := rfl
@[simp] theorem writeMem_n (s : State) (m : MemOperand) (u : Byte) : (writeMem s m u).n = s.n := rfl
@[simp] theorem writeMem_v (s : State) (m : MemOperand) (u : Byte) : (writeMem s m u).v = s.v := rfl
@[simp] theorem writeMem_b (s : State) (m : MemOperand) (u : Byte) : (writeMem s m u).b = s.b := rfl
@[simp] theorem writeMem_d (s : State) (m : MemOperand) (u : Byte) : (writeMem s m u).d = s.d := rfl
@[simp] theorem writeMem_i (s : State) (m : MemOperand) (u : Byte) : (writeMem s m u).i = s.i := rfl
@[simp] theorem writeMem_z (s : State) (m : MemOperand) (u : Byte) : (writeMem s m u).z = s.z := rfl
@[simp] theorem writeMem_c (s : State) (m : MemOperand) (u : Byte) : (writeMem s m u).c = s.c := rfl
@[simp] theorem writeMem_mem (s : State) (m : MemOperand) (u : Byte) : (writeMem s m u).mem = s.mem.write (effectiveAddress s m) u := rfl
@[simp] theorem writeMem_loopState (s : State) (m : MemOperand) (u : Byte) : (writeMem s m u).loopState = s.loopState := rfl
@[simp] theorem writeMem_pauseReq (s : State) (m : MemOperand) (u : Byte) : (writeMem s m u).pauseReq = s.pauseReq := rfl
@[simp] theorem writeMem_diagLog (s : State) (m : MemOperand) (u : Byte) : (writeMem s m u).diagLog = s.diagLog := rfl
@[simp] theorem writeMem_params (s : State) (m : MemOperand) (u : Byte) : (writeMem s m u).params = s.params := rfl

@[simp] theorem State.branch_a (s : State) (cond : Bool) (d : Byte) : (s.branch cond d).a = s.a := rfl
@[simp] theorem State.branch_x (s : State) (cond : Bool) (d : Byte) : (s.branch cond d).x = s.x := rfl
@[simp] theorem State.branch_y (s : State) (cond : Bool) (d : Byte) : (s.branch cond d).y = s.y := rfl
@[simp] theorem State.branch_pc (s : State) (cond : Bool) (d : Byte) : (s.branch cond d).pc = if cond then s.pc + 2#16 + sext16 d else s.pc + 2#16 := rfl
@[simp] theorem State.branch_sp (s : State) (cond : Bool) (d : Byte) : (s.branch cond d).sp = s.sp := rfl
@[simp] theorem State.branch_n (s : State) (cond : Bool) (d : Byte) : (s.branch cond d).n = s.n := rfl
@[simp] theorem State.branch_v (s : State) (cond : Bool) (d : Byte) : (s.branch cond d).v = s.v := rfl
@[simp] theorem State.branch_b (s : State) (cond : Bool) (d : Byte) : (s.branch cond d).b = s.b := rfl
@[simp] theorem State.branch_d (s : State) (cond : Bool) (d : Byte) : (s.branch cond d).d = s.d := rfl
@[simp] theorem State.branch_i (s : State) (cond : Bool) (d : Byte) : (s.branch cond d).i = s.i := rfl
@[simp] theorem State.branch_z (s : State) (cond : Bool) (d : Byte) : (s.branch cond d).z = s.z := rfl
@[simp] theorem State.branch_c (s : State) (cond : Bool) (d : Byte) : (s.branch cond d).c = s.c := rfl
@[simp] theorem State.branch_mem (s : State) (cond : Bool) (d : Byte) : (s.branch cond d).mem = s.mem := rfl
@[simp] theorem State.branch_loopState (s : State) (cond : Bool) (d : Byte) : (s.branch cond d).loopState = s.loopState := rfl
@[simp] theorem State.branch_pauseReq (s : State) (cond : Bool) (d : Byte) : (s.branch cond d).pauseReq = s.pauseReq := rfl
@[simp] theorem State.branch_diagLog (s : State) (cond : Bool) (d : Byte) : (s.branch cond d).diagLog = s.diagLog := rfl
@[simp] theorem State.branch_params (s : State) (cond : Bool) (d : Byte) : (s.branch cond d).params = s.params := rfl

/-! The operand write goes to A or to memory, by the operand. -/

@[simp] theorem writePlace_x (s : State) (o : Place) (u : Byte) : (writePlace s o u).x = s.x := by cases o <;> rfl
@[simp] theorem writePlace_y (s : State) (o : Place) (u : Byte) : (writePlace s o u).y = s.y := by cases o <;> rfl
@[simp] theorem writePlace_pc (s : State) (o : Place) (u : Byte) : (writePlace s o u).pc = s.pc := by cases o <;> rfl
@[simp] theorem writePlace_sp (s : State) (o : Place) (u : Byte) : (writePlace s o u).sp = s.sp := by cases o <;> rfl
@[simp] theorem writePlace_n (s : State) (o : Place) (u : Byte) : (writePlace s o u).n = s.n := by cases o <;> rfl
@[simp] theorem writePlace_v (s : State) (o : Place) (u : Byte) : (writePlace s o u).v = s.v := by cases o <;> rfl
@[simp] theorem writePlace_b (s : State) (o : Place) (u : Byte) : (writePlace s o u).b = s.b := by cases o <;> rfl
@[simp] theorem writePlace_d (s : State) (o : Place) (u : Byte) : (writePlace s o u).d = s.d := by cases o <;> rfl
@[simp] theorem writePlace_i (s : State) (o : Place) (u : Byte) : (writePlace s o u).i = s.i := by cases o <;> rfl
@[simp] theorem writePlace_z (s : State) (o : Place) (u : Byte) : (writePlace s o u).z = s.z := by cases o <;> rfl
@[simp] theorem writePlace_c (s : State) (o : Place) (u : Byte) : (writePlace s o u).c = s.c := by cases o <;> rfl
@[simp] theorem writePlace_loopState (s : State) (o : Place) (u : Byte) : (writePlace s o u).loopState = s.loopState := by cases o <;> rfl
@[simp] theorem writePlace_pauseReq (s : State) (o : Place) (u : Byte) : (writePlace s o u).pauseReq = s.pauseReq := by cases o <;> rfl
@[simp] theorem writePlace_diagLog (s : State) (o : Place) (u : Byte) : (writePlace s o u).diagLog = s.diagLog := by cases o <;> rfl
@[simp] theorem writePlace_params (s : State) (o : Place) (u : Byte) : (writePlace s o u).params = s.params := by cases o <;> rfl
@[simp] theorem writePlace_accumulator_a (s : State) (u : Byte) : (writePlace s .accumulator u).a = u := rfl
@[simp] theorem writePlace_memory_a (s : State) (m : MemOperand) (u : Byte) : (writePlace s (.memory m) u).a = s.a := rfl
@[simp] theorem writePlace_accumulator_mem (s : State) (u : Byte) : (writePlace s .accumulator u).mem = s.mem := rfl
@[simp] theorem writePlace_memory_mem (s : State) (m : MemOperand) (u : Byte) :
    (writePlace s (.memory m) u).mem = s.mem.write (effectiveAddress s m) u := rfl

/-- An effective address depends on X, Y and memory alone. -/
theorem effectiveAddress_congr {s t : State} (hx : t.x = s.x) (hy : t.y = s.y) (hm : t.mem = s.mem) (m : MemOperand) :
    effectiveAddress t m = effectiveAddress s m := by
  cases m <;> simp only [effectiveAddress, hx, hy, hm]

end Sys2Proof.Machine
end

