-- ==== Sys2Proof/Laws/Stack.lean ====
section
/-! SUPPORT. The stack stays in page 1, its primitives undo each other, and unpacking a packed status gives the flags back. -/

namespace Sys2Proof.Machine

/-- Different SP values name different stack slots (R26). -/
theorem stackAddr_injective {p q : Byte} (h : stackAddr p = stackAddr q) : p = q := by
  simp only [stackAddr, zext16] at h
  bv_omega

/-- Every stack slot lies in page 1 (R26, R68). -/
theorem stackAddr_in_page_one (p : Byte) : 0x0100 ≤ (stackAddr p).toNat ∧ (stackAddr p).toNat ≤ 0x01FF := by
  simp only [stackAddr, zext16]
  bv_omega

/-- A push changes no byte but the slot SP names (R66). -/
theorem State.push_changes {s : State} {u : Byte} {addr : Addr}
    (h : (s.push u).mem.read addr ≠ s.mem.read addr) : addr = stackAddr s.sp := by
  by_contra hne
  exact h (Memory.read_write_ne hne _ _)

/-- A pull after a push gives SP back and leaves the pushed byte in memory (R66, R67). -/
theorem State.pulled_push (s : State) (u : Byte) :
    (s.push u).pulled = { s with mem := s.mem.write (stackAddr s.sp) u } := by
  simp only [State.pulled, State.push, show s.sp - 1#8 + 1#8 = s.sp by bv_omega]

/-- A pull after a push returns the pushed byte (R66, R67), SP wrapped or not (R68). -/
theorem State.pullByte_push {s : State} (h : s.mem.wf = true) (u : Byte) : (s.push u).pullByte = u := by
  simp only [State.pullByte, State.push, show s.sp - 1#8 + 1#8 = s.sp by bv_omega]
  exact Memory.read_write_same h _ _

/-- The eight bits of a packed status (R27, R36). -/
theorem packP_bits (s : State) :
    (packP s).getLsbD 7 = s.n ∧ (packP s).getLsbD 6 = s.v ∧ (packP s).getLsbD 5 = true ∧
    (packP s).getLsbD 4 = pushedBreak s ∧ (packP s).getLsbD 3 = s.d ∧ (packP s).getLsbD 2 = s.i ∧
    (packP s).getLsbD 1 = s.z ∧ (packP s).getLsbD 0 = s.c := by
  unfold packP
  generalize pushedBreak s = bp
  cases s.n <;> cases s.v <;> cases bp <;> cases s.d <;> cases s.i <;> cases s.z <;> cases s.c <;> decide

end Sys2Proof.Machine
end

