-- ==== Sys2Proof/Laws/Step.lean ====
section
/-! SUPPORT. Everything a step, a host request and an event can do, said once. -/

namespace Sys2Proof.Machine

/-- What a step can do (R256, R258): nothing unless Running; else halt, pause, or execute the instruction at PC. -/
theorem step_cases {s t : State} (h : step s = .next t) :
    (s.loopState ≠ .running ∧ t = s) ∨
    (s.loopState = .running ∧ s.b = true ∧ t = { s with loopState := .halted }) ∨
    (s.loopState = .running ∧ s.b = false ∧ s.pauseReq = true ∧ t = { s with pauseReq := false, loopState := .paused }) ∨
    (s.loopState = .running ∧ s.b = false ∧ s.pauseReq = false ∧ exec s.fetch s = .next t) := by
  unfold step loopStep at h
  cases hl : s.loopState <;> simp only [hl, Host.Outcome.next.injEq] at h
  case running =>
    unfold boundary execOne at h
    cases hb : s.b <;> cases hp : s.pauseReq <;>
      simp_all
  all_goals exact .inl ⟨by simp, h.symm⟩

/-- A step of the running loop with nothing pending is `exec` of the instruction at PC (R258). -/
theorem step_running {s : State} (hl : s.loopState = .running) (hb : s.b = false) (hp : s.pauseReq = false) :
    step s = exec s.fetch s := by
  simp [step, loopStep, boundary, execOne, hl, hb, hp]

/-- What an accepted host request can do (R257, R260 to R262, R265, R266, R300). -/
theorem host_cases {r : HostRequest} {s t : State} (h : host r s = .next t) :
    (r = .reset ∧ t = { State.reset with params := s.params }) ∨
    (∃ bytes load, r = .burn bytes load ∧ s.loopState ≠ .running ∧ load + bytes.length ≤ 65536 ∧
      t = { s with mem := s.mem.writeBytes (BitVec.ofNat 16 load) bytes }) ∨
    (r = .run ∧ s.loopState ≠ .running ∧ t = { s with pauseReq := false, b := false, loopState := .running }) ∨
    (r = .step ∧ s.loopState ≠ .running ∧ ∃ u, exec s.fetch s = .next u ∧ t = { u with loopState := .paused }) ∨
    (r = .stop ∧ s.loopState = .running ∧ t = { s with b := true }) ∨
    (r = .stop ∧ s.loopState ≠ .running ∧ t = { s with b := true, loopState := .halted }) ∨
    (r = .pause ∧ s.loopState = .running ∧ t = { s with pauseReq := true }) ∨
    (r = .pause ∧ s.loopState ≠ .running ∧ t = s) ∨
    (r = .inspect ∧ t = s) := by
  cases r with
  | reset => left; simpa [host, hostReset, eq_comm] using h
  | burn bytes load =>
    simp only [host, hostBurn] at h
    split at h
    · cases h
    · split at h
      · cases h
      · cases h
        exact .inr (.inl ⟨bytes, load, rfl, ‹_›, by omega, rfl⟩)
  | run =>
    simp only [host, hostRun] at h
    split at h
    · cases h
    · cases h
      exact .inr (.inr (.inl ⟨rfl, ‹_›, rfl⟩))
  | step =>
    simp only [host, hostStep, execOne] at h
    split at h
    · cases h
    · split at h
      next u hu =>
        cases h
        exact .inr (.inr (.inr (.inl ⟨rfl, ‹_›, u, hu, rfl⟩)))
      all_goals cases h
  | stop =>
    simp only [host, hostStop] at h
    cases hl : s.loopState <;> simp only [hl, Host.Outcome.next.injEq] at h
    case running => exact .inr (.inr (.inr (.inr (.inl ⟨rfl, rfl, h.symm⟩))))
    all_goals exact .inr (.inr (.inr (.inr (.inr (.inl ⟨rfl, by simp, h.symm⟩)))))
  | pause =>
    simp only [host, hostPause] at h
    cases hl : s.loopState <;> simp only [hl, Host.Outcome.next.injEq] at h
    case running => exact .inr (.inr (.inr (.inr (.inr (.inr (.inl ⟨rfl, rfl, h.symm⟩))))))
    all_goals exact .inr (.inr (.inr (.inr (.inr (.inr (.inr (.inl ⟨rfl, by simp, h.symm⟩)))))))
  | inspect =>
    simp only [host, Host.Outcome.next.injEq] at h
    exact .inr (.inr (.inr (.inr (.inr (.inr (.inr (.inr ⟨rfl, h.symm⟩)))))))

/-- What an event can do: a loop step, or a host request. -/
theorem react_cases {e : Event} {s t : State} (h : react e s = .next t) :
    (e = .loop ∧ step s = .next t) ∨ ∃ r, e = .host r ∧ host r s = .next t := by
  cases e with
  | loop => exact .inl ⟨rfl, h⟩
  | host r => exact .inr ⟨r, rfl, h⟩

end Sys2Proof.Machine
end

