-- ==== Sys2Proof/Tests/Slice0.lean ====
section
/-! SUPPORT. The model's own tests: the check of well-formedness, words written out from the encodings, the spec's
vectors (95_test_vectors.md, one step each), and a witness for the hypotheses of every statement that has some. -/

namespace Sys2Proof.Tests

open Sys2Proof Sys2Proof.Machine Sys2Proof.Rules

/-! ## Well-formedness -/

/-- $EA is NOP, so it is no undefined byte (R94, R95). -/
theorem test_wellFormed_refuses_legal_byte : (Instr.undefined 0xEA#8).wellFormed = false := by decide

/-- $02 is the first of the undefined bytes (R95). -/
theorem test_wellFormed_accepts_undefined_byte : (Instr.undefined 0x02#8).wellFormed = true := by decide

/-! ## Every constructor's decoding, by a word written out from the opcode map (R94) and the formats (R91)

The words are in the opcode table's numbering: the opcode byte is bits 7..0, the operand bytes follow. -/

theorem test_decode_lda :
    decodeTableWord 16 0x9CA1 = some (.ldaIndirectX 0x9C#8) ∧
    decodeTableWord 16 0x9CA5 = some (.ldaZeroPage 0x9C#8) ∧
    decodeTableWord 16 0x9CA9 = some (.ldaImmediate 0x9C#8) ∧
    decodeTableWord 24 0x129CAD = some (.ldaAbsolute 0x129C#16) ∧
    decodeTableWord 16 0x9CB1 = some (.ldaIndirectY 0x9C#8) ∧
    decodeTableWord 16 0x9CB5 = some (.ldaZeroPageX 0x9C#8) ∧
    decodeTableWord 24 0x129CB9 = some (.ldaAbsoluteY 0x129C#16) ∧
    decodeTableWord 24 0x129CBD = some (.ldaAbsoluteX 0x129C#16) := by decide

theorem test_decode_ldx :
    decodeTableWord 16 0x9CA2 = some (.ldxImmediate 0x9C#8) ∧
    decodeTableWord 16 0x9CA6 = some (.ldxZeroPage 0x9C#8) ∧
    decodeTableWord 24 0x129CAE = some (.ldxAbsolute 0x129C#16) ∧
    decodeTableWord 16 0x9CB6 = some (.ldxZeroPageY 0x9C#8) ∧
    decodeTableWord 24 0x129CBE = some (.ldxAbsoluteY 0x129C#16) := by decide

theorem test_decode_ldy :
    decodeTableWord 16 0x9CA0 = some (.ldyImmediate 0x9C#8) ∧
    decodeTableWord 16 0x9CA4 = some (.ldyZeroPage 0x9C#8) ∧
    decodeTableWord 24 0x129CAC = some (.ldyAbsolute 0x129C#16) ∧
    decodeTableWord 16 0x9CB4 = some (.ldyZeroPageX 0x9C#8) ∧
    decodeTableWord 24 0x129CBC = some (.ldyAbsoluteX 0x129C#16) := by decide

theorem test_decode_sta :
    decodeTableWord 16 0x9C81 = some (.staIndirectX 0x9C#8) ∧
    decodeTableWord 16 0x9C85 = some (.staZeroPage 0x9C#8) ∧
    decodeTableWord 24 0x129C8D = some (.staAbsolute 0x129C#16) ∧
    decodeTableWord 16 0x9C91 = some (.staIndirectY 0x9C#8) ∧
    decodeTableWord 16 0x9C95 = some (.staZeroPageX 0x9C#8) ∧
    decodeTableWord 24 0x129C99 = some (.staAbsoluteY 0x129C#16) ∧
    decodeTableWord 24 0x129C9D = some (.staAbsoluteX 0x129C#16) := by decide

theorem test_decode_stx :
    decodeTableWord 16 0x9C86 = some (.stxZeroPage 0x9C#8) ∧
    decodeTableWord 24 0x129C8E = some (.stxAbsolute 0x129C#16) ∧
    decodeTableWord 16 0x9C96 = some (.stxZeroPageY 0x9C#8) := by decide

theorem test_decode_sty :
    decodeTableWord 16 0x9C84 = some (.styZeroPage 0x9C#8) ∧
    decodeTableWord 24 0x129C8C = some (.styAbsolute 0x129C#16) ∧
    decodeTableWord 16 0x9C94 = some (.styZeroPageX 0x9C#8) := by decide

theorem test_decode_tax :
    decodeTableWord 8 0xAA = some .tax := by decide

theorem test_decode_tay :
    decodeTableWord 8 0xA8 = some .tay := by decide

theorem test_decode_txa :
    decodeTableWord 8 0x8A = some .txa := by decide

theorem test_decode_tya :
    decodeTableWord 8 0x98 = some .tya := by decide

theorem test_decode_tsx :
    decodeTableWord 8 0xBA = some .tsx := by decide

theorem test_decode_txs :
    decodeTableWord 8 0x9A = some .txs := by decide

theorem test_decode_adc :
    decodeTableWord 16 0x9C61 = some (.adcIndirectX 0x9C#8) ∧
    decodeTableWord 16 0x9C65 = some (.adcZeroPage 0x9C#8) ∧
    decodeTableWord 16 0x9C69 = some (.adcImmediate 0x9C#8) ∧
    decodeTableWord 24 0x129C6D = some (.adcAbsolute 0x129C#16) ∧
    decodeTableWord 16 0x9C71 = some (.adcIndirectY 0x9C#8) ∧
    decodeTableWord 16 0x9C75 = some (.adcZeroPageX 0x9C#8) ∧
    decodeTableWord 24 0x129C79 = some (.adcAbsoluteY 0x129C#16) ∧
    decodeTableWord 24 0x129C7D = some (.adcAbsoluteX 0x129C#16) := by decide

theorem test_decode_sbc :
    decodeTableWord 16 0x9CE1 = some (.sbcIndirectX 0x9C#8) ∧
    decodeTableWord 16 0x9CE5 = some (.sbcZeroPage 0x9C#8) ∧
    decodeTableWord 16 0x9CE9 = some (.sbcImmediate 0x9C#8) ∧
    decodeTableWord 24 0x129CED = some (.sbcAbsolute 0x129C#16) ∧
    decodeTableWord 16 0x9CF1 = some (.sbcIndirectY 0x9C#8) ∧
    decodeTableWord 16 0x9CF5 = some (.sbcZeroPageX 0x9C#8) ∧
    decodeTableWord 24 0x129CF9 = some (.sbcAbsoluteY 0x129C#16) ∧
    decodeTableWord 24 0x129CFD = some (.sbcAbsoluteX 0x129C#16) := by decide

theorem test_decode_and :
    decodeTableWord 16 0x9C21 = some (.andIndirectX 0x9C#8) ∧
    decodeTableWord 16 0x9C25 = some (.andZeroPage 0x9C#8) ∧
    decodeTableWord 16 0x9C29 = some (.andImmediate 0x9C#8) ∧
    decodeTableWord 24 0x129C2D = some (.andAbsolute 0x129C#16) ∧
    decodeTableWord 16 0x9C31 = some (.andIndirectY 0x9C#8) ∧
    decodeTableWord 16 0x9C35 = some (.andZeroPageX 0x9C#8) ∧
    decodeTableWord 24 0x129C39 = some (.andAbsoluteY 0x129C#16) ∧
    decodeTableWord 24 0x129C3D = some (.andAbsoluteX 0x129C#16) := by decide

theorem test_decode_ora :
    decodeTableWord 16 0x9C01 = some (.oraIndirectX 0x9C#8) ∧
    decodeTableWord 16 0x9C05 = some (.oraZeroPage 0x9C#8) ∧
    decodeTableWord 16 0x9C09 = some (.oraImmediate 0x9C#8) ∧
    decodeTableWord 24 0x129C0D = some (.oraAbsolute 0x129C#16) ∧
    decodeTableWord 16 0x9C11 = some (.oraIndirectY 0x9C#8) ∧
    decodeTableWord 16 0x9C15 = some (.oraZeroPageX 0x9C#8) ∧
    decodeTableWord 24 0x129C19 = some (.oraAbsoluteY 0x129C#16) ∧
    decodeTableWord 24 0x129C1D = some (.oraAbsoluteX 0x129C#16) := by decide

theorem test_decode_eor :
    decodeTableWord 16 0x9C41 = some (.eorIndirectX 0x9C#8) ∧
    decodeTableWord 16 0x9C45 = some (.eorZeroPage 0x9C#8) ∧
    decodeTableWord 16 0x9C49 = some (.eorImmediate 0x9C#8) ∧
    decodeTableWord 24 0x129C4D = some (.eorAbsolute 0x129C#16) ∧
    decodeTableWord 16 0x9C51 = some (.eorIndirectY 0x9C#8) ∧
    decodeTableWord 16 0x9C55 = some (.eorZeroPageX 0x9C#8) ∧
    decodeTableWord 24 0x129C59 = some (.eorAbsoluteY 0x129C#16) ∧
    decodeTableWord 24 0x129C5D = some (.eorAbsoluteX 0x129C#16) := by decide

theorem test_decode_cmp :
    decodeTableWord 16 0x9CC1 = some (.cmpIndirectX 0x9C#8) ∧
    decodeTableWord 16 0x9CC5 = some (.cmpZeroPage 0x9C#8) ∧
    decodeTableWord 16 0x9CC9 = some (.cmpImmediate 0x9C#8) ∧
    decodeTableWord 24 0x129CCD = some (.cmpAbsolute 0x129C#16) ∧
    decodeTableWord 16 0x9CD1 = some (.cmpIndirectY 0x9C#8) ∧
    decodeTableWord 16 0x9CD5 = some (.cmpZeroPageX 0x9C#8) ∧
    decodeTableWord 24 0x129CD9 = some (.cmpAbsoluteY 0x129C#16) ∧
    decodeTableWord 24 0x129CDD = some (.cmpAbsoluteX 0x129C#16) := by decide

theorem test_decode_cpx :
    decodeTableWord 16 0x9CE0 = some (.cpxImmediate 0x9C#8) ∧
    decodeTableWord 16 0x9CE4 = some (.cpxZeroPage 0x9C#8) ∧
    decodeTableWord 24 0x129CEC = some (.cpxAbsolute 0x129C#16) := by decide

theorem test_decode_cpy :
    decodeTableWord 16 0x9CC0 = some (.cpyImmediate 0x9C#8) ∧
    decodeTableWord 16 0x9CC4 = some (.cpyZeroPage 0x9C#8) ∧
    decodeTableWord 24 0x129CCC = some (.cpyAbsolute 0x129C#16) := by decide

theorem test_decode_bit :
    decodeTableWord 16 0x9C24 = some (.bitZeroPage 0x9C#8) ∧
    decodeTableWord 24 0x129C2C = some (.bitAbsolute 0x129C#16) := by decide

theorem test_decode_inc :
    decodeTableWord 16 0x9CE6 = some (.incZeroPage 0x9C#8) ∧
    decodeTableWord 24 0x129CEE = some (.incAbsolute 0x129C#16) ∧
    decodeTableWord 16 0x9CF6 = some (.incZeroPageX 0x9C#8) ∧
    decodeTableWord 24 0x129CFE = some (.incAbsoluteX 0x129C#16) := by decide

theorem test_decode_dec :
    decodeTableWord 16 0x9CC6 = some (.decZeroPage 0x9C#8) ∧
    decodeTableWord 24 0x129CCE = some (.decAbsolute 0x129C#16) ∧
    decodeTableWord 16 0x9CD6 = some (.decZeroPageX 0x9C#8) ∧
    decodeTableWord 24 0x129CDE = some (.decAbsoluteX 0x129C#16) := by decide

theorem test_decode_inx :
    decodeTableWord 8 0xE8 = some .inx := by decide

theorem test_decode_iny :
    decodeTableWord 8 0xC8 = some .iny := by decide

theorem test_decode_dex :
    decodeTableWord 8 0xCA = some .dex := by decide

theorem test_decode_dey :
    decodeTableWord 8 0x88 = some .dey := by decide

theorem test_decode_asl :
    decodeTableWord 16 0x9C06 = some (.aslZeroPage 0x9C#8) ∧
    decodeTableWord 8 0x0A = some .aslAccumulator ∧
    decodeTableWord 24 0x129C0E = some (.aslAbsolute 0x129C#16) ∧
    decodeTableWord 16 0x9C16 = some (.aslZeroPageX 0x9C#8) ∧
    decodeTableWord 24 0x129C1E = some (.aslAbsoluteX 0x129C#16) := by decide

theorem test_decode_lsr :
    decodeTableWord 16 0x9C46 = some (.lsrZeroPage 0x9C#8) ∧
    decodeTableWord 8 0x4A = some .lsrAccumulator ∧
    decodeTableWord 24 0x129C4E = some (.lsrAbsolute 0x129C#16) ∧
    decodeTableWord 16 0x9C56 = some (.lsrZeroPageX 0x9C#8) ∧
    decodeTableWord 24 0x129C5E = some (.lsrAbsoluteX 0x129C#16) := by decide

theorem test_decode_rol :
    decodeTableWord 16 0x9C26 = some (.rolZeroPage 0x9C#8) ∧
    decodeTableWord 8 0x2A = some .rolAccumulator ∧
    decodeTableWord 24 0x129C2E = some (.rolAbsolute 0x129C#16) ∧
    decodeTableWord 16 0x9C36 = some (.rolZeroPageX 0x9C#8) ∧
    decodeTableWord 24 0x129C3E = some (.rolAbsoluteX 0x129C#16) := by decide

theorem test_decode_ror :
    decodeTableWord 16 0x9C66 = some (.rorZeroPage 0x9C#8) ∧
    decodeTableWord 8 0x6A = some .rorAccumulator ∧
    decodeTableWord 24 0x129C6E = some (.rorAbsolute 0x129C#16) ∧
    decodeTableWord 16 0x9C76 = some (.rorZeroPageX 0x9C#8) ∧
    decodeTableWord 24 0x129C7E = some (.rorAbsoluteX 0x129C#16) := by decide

theorem test_decode_bcc :
    decodeTableWord 16 0x9C90 = some (.bcc 0x9C#8) := by decide

theorem test_decode_bcs :
    decodeTableWord 16 0x9CB0 = some (.bcs 0x9C#8) := by decide

theorem test_decode_beq :
    decodeTableWord 16 0x9CF0 = some (.beq 0x9C#8) := by decide

theorem test_decode_bne :
    decodeTableWord 16 0x9CD0 = some (.bne 0x9C#8) := by decide

theorem test_decode_bmi :
    decodeTableWord 16 0x9C30 = some (.bmi 0x9C#8) := by decide

theorem test_decode_bpl :
    decodeTableWord 16 0x9C10 = some (.bpl 0x9C#8) := by decide

theorem test_decode_bvc :
    decodeTableWord 16 0x9C50 = some (.bvc 0x9C#8) := by decide

theorem test_decode_bvs :
    decodeTableWord 16 0x9C70 = some (.bvs 0x9C#8) := by decide

theorem test_decode_jmp :
    decodeTableWord 24 0x129C4C = some (.jmpAbsolute 0x129C#16) ∧
    decodeTableWord 24 0x129C6C = some (.jmpIndirect 0x129C#16) := by decide

theorem test_decode_jsr :
    decodeTableWord 24 0x129C20 = some (.jsr 0x129C#16) := by decide

theorem test_decode_rts :
    decodeTableWord 8 0x60 = some .rts := by decide

theorem test_decode_rti :
    decodeTableWord 8 0x40 = some .rti := by decide

theorem test_decode_brk :
    decodeTableWord 8 0x00 = some .brk := by decide

theorem test_decode_pha :
    decodeTableWord 8 0x48 = some .pha := by decide

theorem test_decode_php :
    decodeTableWord 8 0x08 = some .php := by decide

theorem test_decode_pla :
    decodeTableWord 8 0x68 = some .pla := by decide

theorem test_decode_plp :
    decodeTableWord 8 0x28 = some .plp := by decide

theorem test_decode_clc :
    decodeTableWord 8 0x18 = some .clc := by decide

theorem test_decode_cld :
    decodeTableWord 8 0xD8 = some .cld := by decide

theorem test_decode_cli :
    decodeTableWord 8 0x58 = some .cli := by decide

theorem test_decode_clv :
    decodeTableWord 8 0xB8 = some .clv := by decide

theorem test_decode_sec :
    decodeTableWord 8 0x38 = some .sec := by decide

theorem test_decode_sed :
    decodeTableWord 8 0xF8 = some .sed := by decide

theorem test_decode_sei :
    decodeTableWord 8 0x78 = some .sei := by decide

theorem test_decode_nop :
    decodeTableWord 8 0xEA = some .nop := by decide

theorem test_decode_undefined :
    decodeTableWord 8 0x02 = some (.undefined 0x02#8) ∧ decodeTableWord 8 0xFF = some (.undefined 0xFF#8) := by decide

/-- A missing operand byte, and no byte at all, are refused by name. -/
theorem test_decode_refuses_truncated :
    decode [] = .error .noOpcode ∧ decode [0xA9#8] = .error (.missingOperand 0xA9#8) ∧
    decode [0xAD#8, 0x00#8] = .error (.missingOperand 0xAD#8) := ⟨rfl, rfl, rfl⟩

/-! ## The vectors of the spec, one step each

A row runs one instruction from the "before" state at the address, and names every value that changes. -/

/-- The cells written one after another. -/
def withCells (m : Memory) (cells : List (Addr × Byte)) : Memory := cells.foldl (fun m c => m.write c.1 c.2) m

/-- The state with the bytes at the address, the cells in memory, PC there and the loop Running. -/
def placed (s : State) (addr : Addr) (bytes : List Byte) (cells : List (Addr × Byte)) : State :=
  { s with pc := addr, mem := (withCells s.mem cells).writeBytes addr bytes, loopState := .running }

/-- Executing the one instruction at PC leaves exactly the expected state. -/
def runs (s : State) (addr : Addr) (bytes : List Byte) (cells : List (Addr × Byte)) (expected : State → State) : Bool :=
  match execOne (placed s addr bytes cells) with
  | .next t => decide (t = expected (placed s addr bytes cells))
  | .fault _ => false
  | .refused _ => false

/-- LDA # zero: R150, R123. -/
theorem test_ldaImmediate_lda_imm_zero :
    runs ({ State.reset with a := 0x55#8 })
      0x0200#16 [0xA9#8, 0x00#8] []
      (fun b => { b with a := 0x00#8, pc := 0x0202#16, z := true }) := by decide

/-- LDA # negative: R150. -/
theorem test_ldaImmediate_lda_imm_negative :
    runs (State.reset)
      0x0200#16 [0xA9#8, 0x80#8] []
      (fun b => { b with a := 0x80#8, pc := 0x0202#16, n := true }) := by decide

/-- LDA zp: R150, R124. -/
theorem test_ldaZeroPage_lda_zp :
    runs (State.reset)
      0x0200#16 [0xA5#8, 0x10#8] [(0x0010#16, 0x42#8)]
      (fun b => { b with a := 0x42#8, pc := 0x0202#16 }) := by decide

/-- LDA zp,X wraps in page 0: R150, R125. -/
theorem test_ldaZeroPageX_lda_zp_x_wraps_in_page_0 :
    runs ({ State.reset with x := 0x20#8 })
      0x0200#16 [0xB5#8, 0xF0#8] [(0x0010#16, 0x7F#8)]
      (fun b => { b with a := 0x7F#8, pc := 0x0202#16 }) := by decide

/-- LDA abs: R150, R127. -/
theorem test_ldaAbsolute_lda_abs :
    runs (State.reset)
      0x0200#16 [0xAD#8, 0x34#8, 0x12#8] [(0x1234#16, 0x99#8)]
      (fun b => { b with a := 0x99#8, pc := 0x0203#16, n := true }) := by decide

/-- LDA abs,X crosses a page: R150, R128. -/
theorem test_ldaAbsoluteX_lda_abs_x_crosses_a_page :
    runs ({ State.reset with x := 0x01#8 })
      0x0200#16 [0xBD#8, 0xFF#8, 0x12#8] [(0x1300#16, 0x01#8)]
      (fun b => { b with a := 0x01#8, pc := 0x0203#16 }) := by decide

/-- LDA abs,Y wraps past $FFFF: R150, R129. -/
theorem test_ldaAbsoluteY_lda_abs_y_wraps_past_ffff :
    runs ({ State.reset with y := 0x02#8 })
      0x0200#16 [0xB9#8, 0xFF#8, 0xFF#8] [(0x0001#16, 0x33#8)]
      (fun b => { b with a := 0x33#8, pc := 0x0203#16 }) := by decide

/-- LDA (zp,X): R150, R131. -/
theorem test_ldaIndirectX_lda_zp_x :
    runs ({ State.reset with x := 0x04#8 })
      0x0200#16 [0xA1#8, 0x20#8] [(0x0024#16, 0x00#8), (0x0025#16, 0x30#8), (0x3000#16, 0xC3#8)]
      (fun b => { b with a := 0xC3#8, pc := 0x0202#16, n := true }) := by decide

/-- LDA (zp,X), pointer at $FF: R150, R131, R61. -/
theorem test_ldaIndirectX_lda_zp_x_pointer_at_ff :
    runs (State.reset)
      0x0200#16 [0xA1#8, 0xFF#8] [(0x00FF#16, 0x00#8), (0x0000#16, 0x40#8), (0x4000#16, 0x5A#8)]
      (fun b => { b with a := 0x5A#8, pc := 0x0202#16 }) := by decide

/-- LDA (zp),Y, sum crosses a page: R150, R132. -/
theorem test_ldaIndirectY_lda_zp_y_sum_crosses_a_page :
    runs ({ State.reset with y := 0x10#8 })
      0x0200#16 [0xB1#8, 0x40#8] [(0x0040#16, 0xF8#8), (0x0041#16, 0x20#8), (0x2108#16, 0x00#8)]
      (fun b => { b with pc := 0x0202#16, z := true }) := by decide

/-- LDX #: R151. -/
theorem test_ldxImmediate_ldx_imm :
    runs (State.reset)
      0x0200#16 [0xA2#8, 0xFF#8] []
      (fun b => { b with x := 0xFF#8, pc := 0x0202#16, n := true }) := by decide

/-- LDX zp,Y wraps in page 0: R151, R126. -/
theorem test_ldxZeroPageY_ldx_zp_y_wraps_in_page_0 :
    runs ({ State.reset with y := 0x02#8 })
      0x0200#16 [0xB6#8, 0xFF#8] [(0x0001#16, 0x09#8)]
      (fun b => { b with x := 0x09#8, pc := 0x0202#16 }) := by decide

/-- LDX abs,Y: R151. -/
theorem test_ldxAbsoluteY_ldx_abs_y :
    runs ({ State.reset with y := 0x03#8 })
      0x0200#16 [0xBE#8, 0x00#8, 0x20#8] [(0x2003#16, 0x80#8)]
      (fun b => { b with x := 0x80#8, pc := 0x0203#16, n := true }) := by decide

/-- LDY #: R152. -/
theorem test_ldyImmediate_ldy_imm :
    runs (State.reset)
      0x0200#16 [0xA0#8, 0x7F#8] []
      (fun b => { b with y := 0x7F#8, pc := 0x0202#16 }) := by decide

/-- LDY abs,X: R152. -/
theorem test_ldyAbsoluteX_ldy_abs_x :
    runs ({ State.reset with x := 0x05#8, y := 0x44#8 })
      0x0200#16 [0xBC#8, 0x00#8, 0x30#8] [(0x3005#16, 0x00#8)]
      (fun b => { b with y := 0x00#8, pc := 0x0203#16, z := true }) := by decide

/-- STA zp, flags unchanged: R153. -/
theorem test_staZeroPage_sta_zp_flags_unchanged :
    runs ({ State.reset with a := 0x00#8, n := true })
      0x0200#16 [0x85#8, 0x10#8] []
      (fun b => { b with pc := 0x0202#16 }) := by decide

/-- STA abs,X: R153. -/
theorem test_staAbsoluteX_sta_abs_x :
    runs ({ State.reset with a := 0x11#8, x := 0x02#8 })
      0x0200#16 [0x9D#8, 0x00#8, 0x30#8] []
      (fun b => { b with pc := 0x0203#16, mem := b.mem.write 0x3002#16 0x11#8 }) := by decide

/-- STA (zp),Y: R153, R132. -/
theorem test_staIndirectY_sta_zp_y :
    runs ({ State.reset with a := 0x77#8, y := 0x01#8 })
      0x0200#16 [0x91#8, 0x40#8] [(0x0040#16, 0xFF#8), (0x0041#16, 0x20#8)]
      (fun b => { b with pc := 0x0202#16, mem := b.mem.write 0x2100#16 0x77#8 }) := by decide

/-- STA (zp,X): R153, R131. -/
theorem test_staIndirectX_sta_zp_x :
    runs ({ State.reset with a := 0x66#8, x := 0x02#8 })
      0x0200#16 [0x81#8, 0x10#8] [(0x0012#16, 0x00#8), (0x0013#16, 0x05#8)]
      (fun b => { b with pc := 0x0202#16, mem := b.mem.write 0x0500#16 0x66#8 }) := by decide

/-- STX zp,Y: R154. -/
theorem test_stxZeroPageY_stx_zp_y :
    runs ({ State.reset with x := 0xAB#8, y := 0x05#8 })
      0x0200#16 [0x96#8, 0x10#8] []
      (fun b => { b with pc := 0x0202#16, mem := b.mem.write 0x0015#16 0xAB#8 }) := by decide

/-- STX abs: R154. -/
theorem test_stxAbsolute_stx_abs :
    runs ({ State.reset with x := 0x01#8 })
      0x0200#16 [0x8E#8, 0x00#8, 0x05#8] []
      (fun b => { b with pc := 0x0203#16, mem := b.mem.write 0x0500#16 0x01#8 }) := by decide

/-- STY zp,X: R155. -/
theorem test_styZeroPageX_sty_zp_x :
    runs ({ State.reset with y := 0x80#8, x := 0x03#8 })
      0x0200#16 [0x94#8, 0xFE#8] []
      (fun b => { b with pc := 0x0202#16, mem := b.mem.write 0x0001#16 0x80#8 }) := by decide

/-- STY abs: R155. -/
theorem test_styAbsolute_sty_abs :
    runs ({ State.reset with y := 0x80#8 })
      0x0200#16 [0x8C#8, 0x00#8, 0x04#8] []
      (fun b => { b with pc := 0x0203#16, mem := b.mem.write 0x0400#16 0x80#8 }) := by decide

/-- TAX: R156. -/
theorem test_tax_tax :
    runs ({ State.reset with a := 0x80#8 })
      0x0200#16 [0xAA#8] []
      (fun b => { b with x := 0x80#8, pc := 0x0201#16, n := true }) := by decide

/-- TAY, zero: R157. -/
theorem test_tay_tay_zero :
    runs ({ State.reset with a := 0x00#8, y := 0x12#8 })
      0x0200#16 [0xA8#8] []
      (fun b => { b with y := 0x00#8, pc := 0x0201#16, z := true }) := by decide

/-- TXA: R158. -/
theorem test_txa_txa :
    runs ({ State.reset with x := 0x01#8, a := 0xFF#8, n := true })
      0x0200#16 [0x8A#8] []
      (fun b => { b with a := 0x01#8, pc := 0x0201#16, n := false }) := by decide

/-- TYA: R159. -/
theorem test_tya_tya :
    runs ({ State.reset with y := 0x90#8 })
      0x0200#16 [0x98#8] []
      (fun b => { b with a := 0x90#8, pc := 0x0201#16, n := true }) := by decide

/-- TSX: R160. -/
theorem test_tsx_tsx :
    runs ({ State.reset with sp := 0xFD#8 })
      0x0200#16 [0xBA#8] []
      (fun b => { b with x := 0xFD#8, pc := 0x0201#16, n := true }) := by decide

/-- TXS, no flags: R161. -/
theorem test_txs_txs_no_flags :
    runs ({ State.reset with x := 0x00#8, n := true })
      0x0200#16 [0x9A#8] []
      (fun b => { b with pc := 0x0201#16, sp := 0x00#8 }) := by decide

/-- ADC # no carry: R171. -/
theorem test_adcImmediate_adc_imm_no_carry :
    runs ({ State.reset with a := 0x20#8 })
      0x0200#16 [0x69#8, 0x10#8] []
      (fun b => { b with a := 0x30#8, pc := 0x0202#16 }) := by decide

/-- ADC # carry in: R171. -/
theorem test_adcImmediate_adc_imm_carry_in :
    runs ({ State.reset with a := 0x20#8, c := true })
      0x0200#16 [0x69#8, 0x10#8] []
      (fun b => { b with a := 0x31#8, pc := 0x0202#16, c := false }) := by decide

/-- ADC zp: R171. -/
theorem test_adcZeroPage_adc_zp :
    runs ({ State.reset with a := 0x01#8 })
      0x0200#16 [0x65#8, 0x10#8] [(0x0010#16, 0x02#8)]
      (fun b => { b with a := 0x03#8, pc := 0x0202#16 }) := by decide

/-- SBC # C=1: R172. -/
theorem test_sbcImmediate_sbc_imm_c_1 :
    runs ({ State.reset with a := 0x05#8, c := true })
      0x0200#16 [0xE9#8, 0x01#8] []
      (fun b => { b with a := 0x04#8, pc := 0x0202#16 }) := by decide

/-- SBC # C=0 borrows: R172. -/
theorem test_sbcImmediate_sbc_imm_c_0_borrows :
    runs ({ State.reset with a := 0x05#8 })
      0x0200#16 [0xE9#8, 0x01#8] []
      (fun b => { b with a := 0x03#8, pc := 0x0202#16, c := true }) := by decide

/-- AND #: R173. -/
theorem test_andImmediate_and_imm :
    runs ({ State.reset with a := 0xF3#8 })
      0x0200#16 [0x29#8, 0x0F#8] []
      (fun b => { b with a := 0x03#8, pc := 0x0202#16 }) := by decide

/-- AND # to zero: R173. -/
theorem test_andImmediate_and_imm_to_zero :
    runs ({ State.reset with a := 0xF3#8 })
      0x0200#16 [0x29#8, 0x0C#8] []
      (fun b => { b with a := 0x00#8, pc := 0x0202#16, z := true }) := by decide

/-- ORA #: R174. -/
theorem test_oraImmediate_ora_imm :
    runs ({ State.reset with a := 0x01#8 })
      0x0200#16 [0x09#8, 0x80#8] []
      (fun b => { b with a := 0x81#8, pc := 0x0202#16, n := true }) := by decide

/-- EOR # to zero: R175. -/
theorem test_eorImmediate_eor_imm_to_zero :
    runs ({ State.reset with a := 0xFF#8 })
      0x0200#16 [0x49#8, 0xFF#8] []
      (fun b => { b with a := 0x00#8, pc := 0x0202#16, z := true }) := by decide

/-- EOR #: R175. -/
theorem test_eorImmediate_eor_imm :
    runs ({ State.reset with a := 0xF0#8, z := true })
      0x0200#16 [0x49#8, 0x0F#8] []
      (fun b => { b with a := 0xFF#8, pc := 0x0202#16, n := true, z := false }) := by decide

/-- CMP # equal: R176. -/
theorem test_cmpImmediate_cmp_imm_equal :
    runs ({ State.reset with a := 0x40#8 })
      0x0200#16 [0xC9#8, 0x40#8] []
      (fun b => { b with pc := 0x0202#16, z := true, c := true }) := by decide

/-- CMP # A greater: R176. -/
theorem test_cmpImmediate_cmp_imm_a_greater :
    runs ({ State.reset with a := 0x40#8 })
      0x0200#16 [0xC9#8, 0x10#8] []
      (fun b => { b with pc := 0x0202#16, c := true }) := by decide

/-- CPX #: R177. -/
theorem test_cpxImmediate_cpx_imm :
    runs ({ State.reset with x := 0x05#8 })
      0x0200#16 [0xE0#8, 0x05#8] []
      (fun b => { b with pc := 0x0202#16, z := true, c := true }) := by decide

/-- CPX zp: R177. -/
theorem test_cpxZeroPage_cpx_zp :
    runs ({ State.reset with x := 0x01#8 })
      0x0200#16 [0xE4#8, 0x10#8] [(0x0010#16, 0x02#8)]
      (fun b => { b with pc := 0x0202#16, n := true }) := by decide

/-- CPY #: R178. -/
theorem test_cpyImmediate_cpy_imm :
    runs ({ State.reset with y := 0x04#8 })
      0x0200#16 [0xC0#8, 0x03#8] []
      (fun b => { b with pc := 0x0202#16, c := true }) := by decide

/-- CPY abs: R178. -/
theorem test_cpyAbsolute_cpy_abs :
    runs ({ State.reset with y := 0x00#8 })
      0x0200#16 [0xCC#8, 0x00#8, 0x30#8] [(0x3000#16, 0x01#8)]
      (fun b => { b with pc := 0x0203#16, n := true }) := by decide

/-- BIT zp: R179. -/
theorem test_bitZeroPage_bit_zp :
    runs ({ State.reset with a := 0x01#8 })
      0x0200#16 [0x24#8, 0x10#8] [(0x0010#16, 0xC0#8)]
      (fun b => { b with pc := 0x0202#16, n := true, v := true, z := true }) := by decide

/-- BIT abs: R179. -/
theorem test_bitAbsolute_bit_abs :
    runs ({ State.reset with a := 0x0F#8, n := true, v := true, z := true })
      0x0200#16 [0x2C#8, 0x00#8, 0x30#8] [(0x3000#16, 0x01#8)]
      (fun b => { b with pc := 0x0203#16, n := false, v := false, z := false }) := by decide

/-- INC zp: R180. -/
theorem test_incZeroPage_inc_zp :
    runs (State.reset)
      0x0200#16 [0xE6#8, 0x10#8] [(0x0010#16, 0x7F#8)]
      (fun b => { b with pc := 0x0202#16, n := true, mem := b.mem.write 0x0010#16 0x80#8 }) := by decide

/-- INC abs,X wraps $FF: R180. -/
theorem test_incAbsoluteX_inc_abs_x_wraps_ff :
    runs ({ State.reset with x := 0x01#8 })
      0x0200#16 [0xFE#8, 0x00#8, 0x30#8] [(0x3001#16, 0xFF#8)]
      (fun b => { b with pc := 0x0203#16, z := true, mem := b.mem.write 0x3001#16 0x00#8 }) := by decide

/-- DEC zp: R181. -/
theorem test_decZeroPage_dec_zp :
    runs (State.reset)
      0x0200#16 [0xC6#8, 0x10#8] [(0x0010#16, 0x01#8)]
      (fun b => { b with pc := 0x0202#16, z := true, mem := b.mem.write 0x0010#16 0x00#8 }) := by decide

/-- DEC zp,X wraps $00: R181. -/
theorem test_decZeroPageX_dec_zp_x_wraps_00 :
    runs ({ State.reset with x := 0x01#8 })
      0x0200#16 [0xD6#8, 0x0F#8] [(0x0010#16, 0x00#8)]
      (fun b => { b with pc := 0x0202#16, n := true, mem := b.mem.write 0x0010#16 0xFF#8 }) := by decide

/-- INX wraps: R182. -/
theorem test_inx_inx_wraps :
    runs ({ State.reset with x := 0xFF#8 })
      0x0200#16 [0xE8#8] []
      (fun b => { b with x := 0x00#8, pc := 0x0201#16, z := true }) := by decide

/-- INY: R183. -/
theorem test_iny_iny :
    runs ({ State.reset with y := 0x7F#8 })
      0x0200#16 [0xC8#8] []
      (fun b => { b with y := 0x80#8, pc := 0x0201#16, n := true }) := by decide

/-- DEX: R184. -/
theorem test_dex_dex :
    runs ({ State.reset with x := 0x01#8 })
      0x0200#16 [0xCA#8] []
      (fun b => { b with x := 0x00#8, pc := 0x0201#16, z := true }) := by decide

/-- DEY wraps: R185. -/
theorem test_dey_dey_wraps :
    runs ({ State.reset with y := 0x00#8 })
      0x0200#16 [0x88#8] []
      (fun b => { b with y := 0xFF#8, pc := 0x0201#16, n := true }) := by decide

/-- ASL A: R200, R122. -/
theorem test_aslAccumulator_asl_a :
    runs ({ State.reset with a := 0x81#8 })
      0x0200#16 [0x0A#8] []
      (fun b => { b with a := 0x02#8, pc := 0x0201#16, c := true }) := by decide

/-- ASL A to zero: R200. -/
theorem test_aslAccumulator_asl_a_to_zero :
    runs ({ State.reset with a := 0x80#8 })
      0x0200#16 [0x0A#8] []
      (fun b => { b with a := 0x00#8, pc := 0x0201#16, z := true, c := true }) := by decide

/-- ASL zp: R200. -/
theorem test_aslZeroPage_asl_zp :
    runs (State.reset)
      0x0200#16 [0x06#8, 0x10#8] [(0x0010#16, 0x40#8)]
      (fun b => { b with pc := 0x0202#16, n := true, mem := b.mem.write 0x0010#16 0x80#8 }) := by decide

/-- ASL abs,X: R200. -/
theorem test_aslAbsoluteX_asl_abs_x :
    runs ({ State.reset with x := 0x01#8 })
      0x0200#16 [0x1E#8, 0x00#8, 0x30#8] [(0x3001#16, 0x01#8)]
      (fun b => { b with pc := 0x0203#16, mem := b.mem.write 0x3001#16 0x02#8 }) := by decide

/-- LSR A: R201. -/
theorem test_lsrAccumulator_lsr_a :
    runs ({ State.reset with a := 0x01#8 })
      0x0200#16 [0x4A#8] []
      (fun b => { b with a := 0x00#8, pc := 0x0201#16, z := true, c := true }) := by decide

/-- LSR A clears N: R201. -/
theorem test_lsrAccumulator_lsr_a_clears_n :
    runs ({ State.reset with a := 0xFE#8, n := true })
      0x0200#16 [0x4A#8] []
      (fun b => { b with a := 0x7F#8, pc := 0x0201#16, n := false }) := by decide

/-- LSR zp,X: R201. -/
theorem test_lsrZeroPageX_lsr_zp_x :
    runs ({ State.reset with x := 0x01#8 })
      0x0200#16 [0x56#8, 0x10#8] [(0x0011#16, 0x03#8)]
      (fun b => { b with pc := 0x0202#16, c := true, mem := b.mem.write 0x0011#16 0x01#8 }) := by decide

/-- ROL A, C in: R202. -/
theorem test_rolAccumulator_rol_a_c_in :
    runs ({ State.reset with a := 0x80#8, c := true })
      0x0200#16 [0x2A#8] []
      (fun b => { b with a := 0x01#8, pc := 0x0201#16 }) := by decide

/-- ROL A, C=0: R202. -/
theorem test_rolAccumulator_rol_a_c_0 :
    runs ({ State.reset with a := 0x40#8 })
      0x0200#16 [0x2A#8] []
      (fun b => { b with a := 0x80#8, pc := 0x0201#16, n := true }) := by decide

/-- ROL abs: R202. -/
theorem test_rolAbsolute_rol_abs :
    runs ({ State.reset with c := true })
      0x0200#16 [0x2E#8, 0x00#8, 0x30#8] [(0x3000#16, 0x7F#8)]
      (fun b => { b with pc := 0x0203#16, n := true, c := false, mem := b.mem.write 0x3000#16 0xFF#8 }) := by decide

/-- ROR A, C in: R203. -/
theorem test_rorAccumulator_ror_a_c_in :
    runs ({ State.reset with a := 0x01#8, c := true })
      0x0200#16 [0x6A#8] []
      (fun b => { b with a := 0x80#8, pc := 0x0201#16, n := true }) := by decide

/-- ROR A, C=0: R203. -/
theorem test_rorAccumulator_ror_a_c_0 :
    runs ({ State.reset with a := 0x02#8 })
      0x0200#16 [0x6A#8] []
      (fun b => { b with a := 0x01#8, pc := 0x0201#16 }) := by decide

/-- ROR zp: R203. -/
theorem test_rorZeroPage_ror_zp :
    runs ({ State.reset with c := true })
      0x0200#16 [0x66#8, 0x10#8] [(0x0010#16, 0x00#8)]
      (fun b => { b with pc := 0x0202#16, n := true, c := false, mem := b.mem.write 0x0010#16 0x80#8 }) := by decide

/-- ROR abs,X: R203. -/
theorem test_rorAbsoluteX_ror_abs_x :
    runs ({ State.reset with x := 0x02#8 })
      0x0200#16 [0x7E#8, 0x00#8, 0x30#8] [(0x3002#16, 0x01#8)]
      (fun b => { b with pc := 0x0203#16, z := true, c := true, mem := b.mem.write 0x3002#16 0x00#8 }) := by decide

/-- BCC not taken: R211. -/
theorem test_bcc_bcc_not_taken :
    runs ({ State.reset with c := true })
      0x0200#16 [0x90#8, 0x10#8] []
      (fun b => { b with pc := 0x0202#16 }) := by decide

/-- BCC taken, backward: R211. -/
theorem test_bcc_bcc_taken_backward :
    runs ({ State.reset with c := false })
      0x0200#16 [0x90#8, 0xFC#8] []
      (fun b => { b with pc := 0x01FE#16 }) := by decide

/-- BCS not taken: R212. -/
theorem test_bcs_bcs_not_taken :
    runs ({ State.reset with c := false })
      0x0200#16 [0xB0#8, 0x10#8] []
      (fun b => { b with pc := 0x0202#16 }) := by decide

/-- BCS taken, backward: R212. -/
theorem test_bcs_bcs_taken_backward :
    runs ({ State.reset with c := true })
      0x0200#16 [0xB0#8, 0xFC#8] []
      (fun b => { b with pc := 0x01FE#16 }) := by decide

/-- BEQ not taken: R213. -/
theorem test_beq_beq_not_taken :
    runs ({ State.reset with z := false })
      0x0200#16 [0xF0#8, 0x10#8] []
      (fun b => { b with pc := 0x0202#16 }) := by decide

/-- BEQ taken, backward: R213. -/
theorem test_beq_beq_taken_backward :
    runs ({ State.reset with z := true })
      0x0200#16 [0xF0#8, 0xFC#8] []
      (fun b => { b with pc := 0x01FE#16 }) := by decide

/-- BNE not taken: R214. -/
theorem test_bne_bne_not_taken :
    runs ({ State.reset with z := true })
      0x0200#16 [0xD0#8, 0x10#8] []
      (fun b => { b with pc := 0x0202#16 }) := by decide

/-- BNE taken, backward: R214. -/
theorem test_bne_bne_taken_backward :
    runs ({ State.reset with z := false })
      0x0200#16 [0xD0#8, 0xFC#8] []
      (fun b => { b with pc := 0x01FE#16 }) := by decide

/-- BMI not taken: R215. -/
theorem test_bmi_bmi_not_taken :
    runs ({ State.reset with n := false })
      0x0200#16 [0x30#8, 0x10#8] []
      (fun b => { b with pc := 0x0202#16 }) := by decide

/-- BMI taken, backward: R215. -/
theorem test_bmi_bmi_taken_backward :
    runs ({ State.reset with n := true })
      0x0200#16 [0x30#8, 0xFC#8] []
      (fun b => { b with pc := 0x01FE#16 }) := by decide

/-- BPL not taken: R216. -/
theorem test_bpl_bpl_not_taken :
    runs ({ State.reset with n := true })
      0x0200#16 [0x10#8, 0x10#8] []
      (fun b => { b with pc := 0x0202#16 }) := by decide

/-- BPL taken, backward: R216. -/
theorem test_bpl_bpl_taken_backward :
    runs ({ State.reset with n := false })
      0x0200#16 [0x10#8, 0xFC#8] []
      (fun b => { b with pc := 0x01FE#16 }) := by decide

/-- BVC not taken: R217. -/
theorem test_bvc_bvc_not_taken :
    runs ({ State.reset with v := true })
      0x0200#16 [0x50#8, 0x10#8] []
      (fun b => { b with pc := 0x0202#16 }) := by decide

/-- BVC taken, backward: R217. -/
theorem test_bvc_bvc_taken_backward :
    runs ({ State.reset with v := false })
      0x0200#16 [0x50#8, 0xFC#8] []
      (fun b => { b with pc := 0x01FE#16 }) := by decide

/-- BVS not taken: R218. -/
theorem test_bvs_bvs_not_taken :
    runs ({ State.reset with v := false })
      0x0200#16 [0x70#8, 0x10#8] []
      (fun b => { b with pc := 0x0202#16 }) := by decide

/-- BVS taken, backward: R218. -/
theorem test_bvs_bvs_taken_backward :
    runs ({ State.reset with v := true })
      0x0200#16 [0x70#8, 0xFC#8] []
      (fun b => { b with pc := 0x01FE#16 }) := by decide

/-- JMP abs: R219. -/
theorem test_jmpAbsolute_jmp_abs :
    runs (State.reset)
      0x0200#16 [0x4C#8, 0x00#8, 0x03#8] []
      (fun b => { b with pc := 0x0300#16 }) := by decide

/-- JMP (ind), ByteAtPointer (default): R220. -/
theorem test_jmpIndirect_jmp_ind_byteatpointer_default :
    runs ({ State.reset with params := { Params.default with jmpIndirectReading := .byteAtPointer } })
      0x0200#16 [0x6C#8, 0x00#8, 0x03#8] [(0x0300#16, 0x40#8), (0x0301#16, 0x12#8)]
      (fun b => { b with pc := 0x0040#16 }) := by decide

/-- JMP (ind), PointerItself: R220. -/
theorem test_jmpIndirect_jmp_ind_pointeritself :
    runs ({ State.reset with params := { Params.default with jmpIndirectReading := .pointerItself } })
      0x0200#16 [0x6C#8, 0x00#8, 0x03#8] [(0x0300#16, 0x40#8), (0x0301#16, 0x12#8)]
      (fun b => { b with pc := 0x0300#16 }) := by decide

/-- JMP (ind), WordAtPointer: R220. -/
theorem test_jmpIndirect_jmp_ind_wordatpointer :
    runs ({ State.reset with params := { Params.default with jmpIndirectReading := .wordAtPointer } })
      0x0200#16 [0x6C#8, 0x00#8, 0x03#8] [(0x0300#16, 0x40#8), (0x0301#16, 0x12#8)]
      (fun b => { b with pc := 0x1240#16 }) := by decide

/-- JMP (ind), WordAtPointer at $xxFF (no page bug): R220. -/
theorem test_jmpIndirect_jmp_ind_wordatpointer_at_xxff_no_page_bug :
    runs ({ State.reset with params := { Params.default with jmpIndirectReading := .wordAtPointer } })
      0x0200#16 [0x6C#8, 0xFF#8, 0x03#8] [(0x03FF#16, 0x40#8), (0x0400#16, 0x12#8), (0x0300#16, 0x99#8)]
      (fun b => { b with pc := 0x1240#16 }) := by decide

/-- JSR: R221. -/
theorem test_jsr_jsr :
    runs (State.reset)
      0x0200#16 [0x20#8, 0x00#8, 0x30#8] []
      (fun b => { b with pc := 0x3000#16, sp := 0xFD#8, mem := (b.mem.write 0x01FE#16 0x02#8).write 0x01FF#16 0x02#8 }) := by decide

/-- JSR, SP=$00 wraps: R221, R68. -/
theorem test_jsr_jsr_sp_00_wraps :
    runs ({ State.reset with sp := 0x00#8 })
      0x0200#16 [0x20#8, 0x00#8, 0x30#8] []
      (fun b => { b with pc := 0x3000#16, sp := 0xFE#8, mem := (b.mem.write 0x0100#16 0x02#8).write 0x01FF#16 0x02#8 }) := by decide

/-- RTS: R222. -/
theorem test_rts_rts :
    runs ({ State.reset with sp := 0xFD#8 })
      0x0200#16 [0x60#8] [(0x01FE#16, 0x02#8), (0x01FF#16, 0x02#8)]
      (fun b => { b with pc := 0x0203#16, sp := 0xFF#8 }) := by decide

/-- RTS from $FFFF wraps to $0000: R222. -/
theorem test_rts_rts_from_ffff_wraps_to_0000 :
    runs ({ State.reset with sp := 0xFD#8 })
      0x0200#16 [0x60#8] [(0x01FE#16, 0xFF#8), (0x01FF#16, 0xFF#8)]
      (fun b => { b with pc := 0x0000#16, sp := 0xFF#8 }) := by decide

/-- RTI: R223. -/
theorem test_rti_rti :
    runs ({ State.reset with sp := 0xFC#8 })
      0x0200#16 [0x40#8] [(0x01FD#16, 0xC3#8), (0x01FE#16, 0x34#8), (0x01FF#16, 0x12#8)]
      (fun b => { b with pc := 0x1234#16, sp := 0xFF#8, n := true, v := true, z := true, c := true }) := by decide

/-- RTI pulling bit 4 = 1: R223, R28. -/
theorem test_rti_rti_pulling_bit_4_1 :
    runs ({ State.reset with sp := 0xFC#8 })
      0x0200#16 [0x40#8] [(0x01FD#16, 0x10#8), (0x01FE#16, 0x00#8), (0x01FF#16, 0x04#8)]
      (fun b => { b with pc := 0x0400#16, sp := 0xFF#8, b := true }) := by decide

/-- BRK: R224. -/
theorem test_brk_brk :
    runs (State.reset)
      0x0004#16 [0x00#8] []
      (fun b => { b with pc := 0x0005#16, b := true }) := by decide

/-- BRK with I=0, SP unchanged: R224. -/
theorem test_brk_brk_with_i_0_sp_unchanged :
    runs ({ State.reset with sp := 0x80#8 })
      0x0200#16 [0x00#8] []
      (fun b => { b with pc := 0x0201#16, b := true }) := by decide

/-- PHA: R230. -/
theorem test_pha_pha :
    runs ({ State.reset with a := 0x5A#8 })
      0x0200#16 [0x48#8] []
      (fun b => { b with pc := 0x0201#16, sp := 0xFE#8, mem := b.mem.write 0x01FF#16 0x5A#8 }) := by decide

/-- PHA at SP=$00 wraps: R230, R68. -/
theorem test_pha_pha_at_sp_00_wraps :
    runs ({ State.reset with a := 0x01#8, sp := 0x00#8 })
      0x0200#16 [0x48#8] []
      (fun b => { b with pc := 0x0201#16, sp := 0xFF#8, mem := b.mem.write 0x0100#16 0x01#8 }) := by decide

/-- PHP, N Z C set: R231. -/
theorem test_php_php_n_z_c_set :
    runs ({ State.reset with n := true, z := true, c := true })
      0x0200#16 [0x08#8] []
      (fun b => { b with pc := 0x0201#16, sp := 0xFE#8, mem := b.mem.write 0x01FF#16 0xA3#8 }) := by decide

/-- PHP, all clear: R231. -/
theorem test_php_php_all_clear :
    runs (State.reset)
      0x0200#16 [0x08#8] []
      (fun b => { b with pc := 0x0201#16, sp := 0xFE#8, mem := b.mem.write 0x01FF#16 0x20#8 }) := by decide

/-- PHP, PhpBreakBit=AlwaysOne: R231. -/
theorem test_php_php_phpbreakbit_alwaysone :
    runs ({ State.reset with params := { Params.default with phpBreakBit := .alwaysOne } })
      0x0200#16 [0x08#8] []
      (fun b => { b with pc := 0x0201#16, sp := 0xFE#8, mem := b.mem.write 0x01FF#16 0x30#8 }) := by decide

/-- PLA: R232. -/
theorem test_pla_pla :
    runs ({ State.reset with sp := 0xFE#8 })
      0x0200#16 [0x68#8] [(0x01FF#16, 0x80#8)]
      (fun b => { b with a := 0x80#8, pc := 0x0201#16, sp := 0xFF#8, n := true }) := by decide

/-- PLA zero: R232. -/
theorem test_pla_pla_zero :
    runs ({ State.reset with sp := 0xFE#8, a := 0x33#8 })
      0x0200#16 [0x68#8] [(0x01FF#16, 0x00#8)]
      (fun b => { b with a := 0x00#8, pc := 0x0201#16, sp := 0xFF#8, z := true }) := by decide

/-- PLP: R233. -/
theorem test_plp_plp :
    runs ({ State.reset with sp := 0xFE#8 })
      0x0200#16 [0x28#8] [(0x01FF#16, 0x01#8)]
      (fun b => { b with pc := 0x0201#16, sp := 0xFF#8, c := true }) := by decide

/-- PLP $FF (sets B: halts): R233, R28. -/
theorem test_plp_plp_ff_sets_b_halts :
    runs ({ State.reset with sp := 0xFE#8 })
      0x0200#16 [0x28#8] [(0x01FF#16, 0xFF#8)]
      (fun b => { b with pc := 0x0201#16, sp := 0xFF#8, n := true, v := true, b := true, d := true, i := true, z := true, c := true }) := by decide

/-- CLC: R234. -/
theorem test_clc_clc :
    runs ({ State.reset with c := true })
      0x0200#16 [0x18#8] []
      (fun b => { b with pc := 0x0201#16, c := false }) := by decide

/-- CLD: R235. -/
theorem test_cld_cld :
    runs ({ State.reset with d := true })
      0x0200#16 [0xD8#8] []
      (fun b => { b with pc := 0x0201#16, d := false }) := by decide

/-- CLI: R236. -/
theorem test_cli_cli :
    runs ({ State.reset with i := true })
      0x0200#16 [0x58#8] []
      (fun b => { b with pc := 0x0201#16, i := false }) := by decide

/-- CLV: R237. -/
theorem test_clv_clv :
    runs ({ State.reset with v := true })
      0x0200#16 [0xB8#8] []
      (fun b => { b with pc := 0x0201#16, v := false }) := by decide

/-- SEC: R238. -/
theorem test_sec_sec :
    runs (State.reset)
      0x0200#16 [0x38#8] []
      (fun b => { b with pc := 0x0201#16, c := true }) := by decide

/-- SED: R239. -/
theorem test_sed_sed :
    runs (State.reset)
      0x0200#16 [0xF8#8] []
      (fun b => { b with pc := 0x0201#16, d := true }) := by decide

/-- SEI: R240. -/
theorem test_sei_sei :
    runs (State.reset)
      0x0200#16 [0x78#8] []
      (fun b => { b with pc := 0x0201#16, i := true }) := by decide

/-- NOP: R241. -/
theorem test_nop_nop :
    runs (State.reset)
      0x0200#16 [0xEA#8] []
      (fun b => { b with pc := 0x0201#16 }) := by decide

/-- undefined $02: R253. -/
theorem test_undefined_undefined_02 :
    runs (State.reset)
      0x0200#16 [0x02#8, 0xA9#8, 0x01#8] []
      (fun b => { b with pc := 0x0201#16, diagLog := [⟨0x0200#16, 0x02#8⟩] }) := by decide

/-- undefined $03: R253. -/
theorem test_undefined_undefined_03 :
    runs (State.reset)
      0x0200#16 [0x03#8, 0xA9#8, 0x01#8] []
      (fun b => { b with pc := 0x0201#16, diagLog := [⟨0x0200#16, 0x03#8⟩] }) := by decide

/-- undefined $1A: R253. -/
theorem test_undefined_undefined_1a :
    runs (State.reset)
      0x0200#16 [0x1A#8, 0xA9#8, 0x01#8] []
      (fun b => { b with pc := 0x0201#16, diagLog := [⟨0x0200#16, 0x1A#8⟩] }) := by decide

/-! ## The execution loop and the host (95_test_vectors.md section 3) -/

/-- The state after `reset()`, `burn(bytes, 0)` and the events. -/
def ran (bytes : List Byte) (es : List Event) : State :=
  runEvents ([.host .reset, .host (.burn bytes 0)] ++ es) State.reset

/-- L1. -/
theorem test_loop_L1_step_from_idle :
    (ran [0xA9#8, 0x05#8, 0x00#8] [.host .step]).a = 0x05#8 ∧
    (ran [0xA9#8, 0x05#8, 0x00#8] [.host .step]).pc = 0x0002#16 ∧
    (ran [0xA9#8, 0x05#8, 0x00#8] [.host .step]).loopState = .paused ∧
    (ran [0xA9#8, 0x05#8, 0x00#8] [.host .step]).b = false := by decide

/-- L2. -/
theorem test_loop_L2_step_of_brk_pauses :
    (ran [0xA9#8, 0x05#8, 0x00#8] [.host .step, .host .step]).pc = 0x0003#16 ∧
    (ran [0xA9#8, 0x05#8, 0x00#8] [.host .step, .host .step]).loopState = .paused ∧
    (ran [0xA9#8, 0x05#8, 0x00#8] [.host .step, .host .step]).b = true := by decide

/-- L4. -/
theorem test_loop_L4_brk_halts :
    (ran [0x00#8, 0xA9#8, 0x07#8, 0x00#8] [.host .run, .loop, .loop]).pc = 0x0001#16 ∧
    (ran [0x00#8, 0xA9#8, 0x07#8, 0x00#8] [.host .run, .loop, .loop]).loopState = .halted := by decide

/-- L6. -/
theorem test_loop_L6_stop_while_idle :
    ran [] [.host .stop] = { State.reset with b := true, loopState := .halted } := by decide

/-- L7 and L8: refused, state unchanged. -/
theorem test_loop_L7_L8_refused_while_running :
    ran [] [.host .run, .host .run] = ran [] [.host .run] ∧ ran [] [.host .run, .host .step] = ran [] [.host .run] := by decide

/-- L9. -/
theorem test_loop_L9_pause_at_next_boundary :
    ran [0x4C#8, 0x00#8, 0x00#8] [.host .run, .host .pause, .loop] =
      { ran [0x4C#8, 0x00#8, 0x00#8] [] with loopState := .paused } := by decide

/-- L11: halt wins over pause. -/
theorem test_loop_L11_halt_wins :
    (ran [0x4C#8, 0x00#8, 0x00#8] [.host .run, .host .pause, .host .stop, .loop]).loopState = .halted := by decide

/-- L12. -/
theorem test_loop_L12_pause_while_idle : ran [] [.host .pause] = State.reset := by decide

/-- L13, L14, L15: `burn` refused while Running, refused past $FFFF, accepted at $FFFF. -/
theorem test_loop_L13_L14_L15_burn :
    ran [] [.host .run, .host (.burn [0x01#8] 0)] = ran [] [.host .run] ∧
    ran [] [.host (.burn [0x01#8, 0x02#8] 0xFFFF)] = State.reset ∧
    (ran [] [.host (.burn [0x01#8] 0xFFFF)]).mem.read 0xFFFF#16 = 0x01#8 := by decide

/-- L16: reset empties the log. -/
theorem test_loop_L16_reset_clears : ran [0x02#8] [.host .run, .loop, .host .reset] = State.reset := by decide

/-- L20: `step()` executes despite B = 1, and leaves it. -/
theorem test_loop_L20_step_despite_break :
    (runEvents [.host .step] { ran [0x00#8, 0xA9#8, 0x07#8] [] with pc := 0x0001#16, b := true, loopState := .halted }) =
      { ran [0x00#8, 0xA9#8, 0x07#8] [] with pc := 0x0003#16, a := 0x07#8, b := true, loopState := .paused } := by decide

/-- A batch of one boundary step executes one instruction (R259). -/
theorem test_batch_of_one :
    (match runBatch 1 (ran [0xEA#8] [.host .run]) with | .next t => t.pc | _ => 0x9999#16) = 0x0001#16 := by decide

/-- The worker channel's messages (R267, D34). -/
theorem test_channel_ram_burns_at_zero : channelRequest (.ram [0x01#8]) = .burn [0x01#8] 0 := by decide

/-- One instruction placed for the next step is the one it runs, from reset too: `A2 FF` is LDX #$FF. -/
theorem test_withFetchWord :
    (match step (State.reset.withFetchWord 16 0xFFA2) with | .next t => t.x | _ => 0x00#8) = 0xFF#8 := by decide

/-- A 16-bit operand fetched across $FFFF (section 2.8, R69). -/
theorem test_fetch_wraps :
    runs State.reset 0xFFFE#16 [0xAD#8, 0x34#8, 0x12#8] [(0x1234#16, 0x55#8)]
      (fun b => { b with a := 0x55#8, pc := 0x0001#16 }) := by decide

/-- The status byte after reset is $20 (section 2.8, R27, R36). -/
theorem test_packP_reset : packP State.reset = 0x20#8 := by decide

/-! ## Witnesses: a state and operands that meet the hypotheses of each statement that has some -/

/-- A running state with `bytes` at $0200 and nothing pending. -/
def running (bytes : List Byte) : State := placed State.reset 0x0200#16 bytes []

theorem witness_Inv_reset : State.reset.Inv :=
  ⟨by decide, by decide, by decide, by decide⟩

theorem witness_Inv_running : (running [0xA9#8, 0x05#8]).Inv :=
  ⟨by decide, by decide, by decide, by decide⟩

theorem witness_DecodeEncodeAgree : (Instr.undefined 0x02#8).wellFormed = true ∧ (Instr.ldaAbsolute 0xFFFF#16).wellFormed = true := by
  decide

theorem witness_EncodeDecodeAgree : decode [0xAD#8, 0x05#8, 0x00#8, 0x01#8] = .ok (.ldaAbsolute 0x0005#16, [0x01#8]) := rfl

theorem witness_UndefinedBytesAreThe105 :
    0xFF#8 ∈ undefinedBytes ∧ 0xFE#8 ∉ undefinedBytes ∧
    decode [0xFE#8, 0x05#8, 0x00#8] = .ok (.incAbsoluteX 0x0005#16, []) := ⟨by decide, by decide, rfl⟩

theorem witness_OpcodeTellsLength :
    decode [0xA9#8, 0x05#8] = .ok (.ldaImmediate 0x05#8, []) ∧
    decode [0xA9#8, 0x06#8, 0x07#8] = .ok (.ldaImmediate 0x06#8, [0x07#8]) := ⟨rfl, rfl⟩

theorem witness_StepRunsDecodedInstruction :
    let s := running [0xA9#8, 0x05#8]
    s.loopState = .running ∧ s.b = false ∧ s.pauseReq = false ∧
    decode [s.mem.read s.pc, s.mem.read (s.pc + 1#16), s.mem.read (s.pc + 2#16)] =
      .ok (.ldaImmediate 0x05#8, [0x00#8]) := ⟨rfl, rfl, rfl, rfl⟩

theorem witness_StepRunsTheBytesInMemory :
    let s := running [0xA9#8, 0x05#8]
    (Instr.ldaImmediate 0x05#8).wellFormed = true ∧ s.loopState = .running ∧ s.b = false ∧ s.pauseReq = false ∧
    (∀ (k : Nat) (h : k < (encode (.ldaImmediate 0x05#8)).length),
      s.mem.read (s.pc + BitVec.ofNat 16 k) = (encode (.ldaImmediate 0x05#8))[k]) := by
  refine ⟨rfl, rfl, rfl, rfl, fun k h => ?_⟩
  match k, h with
  | 0, _ => rfl
  | 1, _ => rfl

theorem witness_BoundaryChecksHaltThenPause :
    let s := { running [] with b := true }
    let u := { running [] with pauseReq := true }
    (s.loopState = .running ∧ s.b = true) ∧ (u.loopState = .running ∧ u.b = false ∧ u.pauseReq = true) := by decide

theorem witness_OnlyRunningOrHostStepExecutes :
    State.reset.loopState ≠ .running ∧ HostRequest.stop ≠ .step ∧ HostRequest.stop ≠ .reset ∧
    ∃ t, host .stop State.reset = .next t := ⟨by decide, by decide, by decide, _, rfl⟩

theorem witness_StepKeepsInvariant :
    let s := running [0xA9#8, 0x05#8]
    s.Inv ∧ ∃ t, step s = .next t ∧ t.a = 0x05#8 := ⟨witness_Inv_running, _, rfl, rfl⟩

theorem witness_HostRequestsKeepInvariant :
    State.reset.Inv ∧ ∃ t, host (.burn [0x01#8] 0) State.reset = .next t := ⟨witness_Inv_reset, _, rfl⟩

theorem witness_BurnCopiesItsBytes :
    (running []).loopState = .running ∧
    (State.reset.loopState ≠ .running ∧ 0xFFFF + [0x01#8, 0x02#8].length > 65536) ∧
    (State.reset.mem.wf = true ∧ State.reset.loopState ≠ .running ∧ 0xFFFF + [0x01#8].length ≤ 65536) := by decide

/-- Both preconditions of D23 fail: the refusal is the model's choice (log entry 20). -/
theorem witness_BurnCopiesItsBytes_both :
    (running []).loopState = .running ∧ 0xFFFF + [0x01#8, 0x02#8].length > 65536 ∧
    host (.burn [0x01#8, 0x02#8] 0xFFFF) (running []) = .refused .burnWhileRunning := ⟨rfl, by decide, rfl⟩

theorem witness_StandardLaunchStartsProgram : [0xA9#8, 0x01#8, 0x85#8, 0x00#8].length ≤ 65536 := by decide

theorem witness_BatchSizeIsInvisible : ∃ t, runBatch 2 (running [0xA9#8, 0x05#8]) = .next t ∧ t.a = 0x05#8 := ⟨_, rfl, rfl⟩

theorem witness_BreakHaltsAndRunResumes :
    let s := running [0x00#8]
    s.loopState = .running ∧ s.b = false ∧ s.pauseReq = false ∧ s.mem.read s.pc = 0x00#8 := by decide

theorem witness_AdcSbc_standard : State.reset.params.overflowFn = .standard := by decide

theorem witness_OverflowMeansSignedRange_adc :
    let s := { State.reset with a := 0x7F#8 }
    s.params.overflowFn = .standard ∧ ReadsOperand (.adcImmediate 0x01#8) s 0x01#8 ∧
    (Instr.adcImmediate 0x01#8).mnemonic = .adc ∧ ∃ t, exec (.adcImmediate 0x01#8) s = .next t ∧ t.v = true :=
  ⟨rfl, .inl rfl, rfl, _, rfl, rfl⟩

theorem witness_OverflowMeansSignedRange_sbc :
    let s := { State.reset with a := 0x80#8, c := true, mem := [(0x10, 0x01#8)] }
    s.params.overflowFn = .standard ∧ ReadsOperand (.sbcZeroPage 0x10#8) s 0x01#8 ∧
    (Instr.sbcZeroPage 0x10#8).mnemonic = .sbc ∧ ∃ t, exec (.sbcZeroPage 0x10#8) s = .next t ∧ t.v = true :=
  ⟨rfl, .inr (.inr ⟨_, rfl, rfl⟩), rfl, _, rfl, rfl⟩

theorem witness_NineRotatesAreIdentity :
    (Instr.rolAbsoluteX 0xFFFF#16).mnemonic = .rol ∧ Instr.rorAccumulator.mnemonic = .ror ∧
    (running [0x2A#8]).mem.wf = true := by decide

theorem witness_JmpIndirectByReading :
    State.reset.params.jmpIndirectReading = .byteAtPointer ∧
    { State.reset with params := { Params.default with jmpIndirectReading := .pointerItself } }.params.jmpIndirectReading =
      .pointerItself ∧
    { State.reset with params := { Params.default with jmpIndirectReading := .wordAtPointer } }.params.jmpIndirectReading =
      .wordAtPointer := by decide

/-- The state after the JSR itself meets the hypotheses on the state that executes the RTS; SP wraps here. -/
theorem witness_RtsReturnsAfterJsr :
    let s := { running [0x20#8, 0x00#8, 0x30#8] with sp := 0x00#8 }
    s.mem.wf = true ∧ ∃ t, exec (.jsr 0x3000#16) s = .next t ∧ t.sp = 0xFE#8 ∧
      t.mem.read (slot t 1#8) = 0x02#8 ∧ t.mem.read (slot t 2#8) = 0x02#8 :=
  ⟨by decide, _, rfl, by decide, by decide, by decide⟩

/-- The program PHP, PLP on a machine whose PHP always pushes bit 4 as 1. -/
def alwaysOneMachine : State :=
  { running [0x08#8, 0x28#8] with params := { Params.default with phpBreakBit := .alwaysOne } }

theorem witness_PlpUndoesPhp :
    ((running [0x08#8]).mem.wf = true ∧ (running [0x08#8]).params.phpBreakBit = .stored) ∧
    (alwaysOneMachine.mem.wf = true ∧ alwaysOneMachine.params.phpBreakBit = .alwaysOne) := by decide

theorem witness_AdcSbc_overflowFn :
    State.reset.params.overflowFn = .standard ∧
    { State.reset with params := { Params.default with overflowFn := .unstated } }.params.overflowFn = .unstated :=
  ⟨rfl, rfl⟩

theorem witness_UndefinedBytesAreDiagnosed : 0x02#8 ∈ undefinedBytes ∧ 0xFF#8 ∈ undefinedBytes := by decide

theorem witness_MemoryChangesOnlyWhereStored :
    (∃ t, exec (.staAbsolute 0xFFFF#16) State.reset = .next t) ∧
    0x0000#16 ∉ (Instr.staAbsolute 0xFFFF#16).storedAddresses State.reset ∧
    0xFFFF#16 ∈ (Instr.staAbsolute 0xFFFF#16).storedAddresses State.reset := ⟨⟨_, rfl⟩, by decide, by decide⟩

theorem witness_StoredByteReadsBack :
    State.reset.mem.wf = true ∧
    ((Instr.staIndirectY 0xFF#8).mnemonic = .sta ∧ (Instr.staIndirectY 0xFF#8).memOperand = some (.indirectY 0xFF#8)) ∧
    ((Instr.stxZeroPageY 0xFF#8).mnemonic = .stx ∧ (Instr.stxZeroPageY 0xFF#8).memOperand = some (.zeroPageY 0xFF#8)) ∧
    ((Instr.styAbsolute 0xFFFF#16).mnemonic = .sty ∧ (Instr.styAbsolute 0xFFFF#16).memOperand = some (.absolute 0xFFFF#16)) ∧
    (∃ t, exec .pha State.reset = .next t) := ⟨by decide, by decide, by decide, by decide, _, rfl⟩

/-- NOP meets every premise of the frames: it is no writer and no reader of anything, and no control transfer. -/
theorem witness_frames :
    (∃ t, exec .nop State.reset = .next t) ∧ Instr.nop.writesA = false ∧ Instr.nop.mnemonic ∉ writersX ∧
    Instr.nop.mnemonic ∉ writersY ∧ Instr.nop.mnemonic ∉ writersSP ∧ Instr.nop.mnemonic ≠ .undefined ∧
    Instr.nop.mnemonic ∉ writersNZ ∧ Instr.nop.mnemonic ∉ writersV ∧ Instr.nop.mnemonic ∉ writersB ∧
    Instr.nop.mnemonic ∉ writersD ∧ Instr.nop.mnemonic ∉ writersI ∧ Instr.nop.mnemonic ∉ writersC ∧
    Instr.nop.mnemonic ∉ readersN ∧ Instr.nop.mnemonic ∉ readersV ∧ Instr.nop.mnemonic ∉ readersZ ∧
    Instr.nop.mnemonic ∉ readersC ∧ Instr.nop.mnemonic ≠ .php ∧ Instr.nop.mnemonic ∉ controlTransfers :=
  ⟨⟨_, rfl⟩, by decide⟩

theorem witness_StackStaysInPageOne :
    Instr.mnemonic (.jsr 0x0300#16) ∈ [Mnemonic.pha, .php, .jsr] ∧
    ∃ t, exec (.jsr 0x0300#16) { State.reset with pc := 0x1234#16, sp := 0x00#8 } = .next t ∧
      t.mem.read 0x0100#16 = 0x12#8 ∧ t.mem.read 0x01FF#16 = 0x36#8 := ⟨by decide, _, rfl, rfl, rfl⟩

theorem witness_ParametersNeverChange :
    (∃ t, react .loop State.reset = .next t) ∧ (∃ t, react (.host .reset) State.reset = .next t) := ⟨⟨_, rfl⟩, _, rfl⟩

end Sys2Proof.Tests
end

section
/-! The opcode byte alone tells an instruction's mnemonic, mode and length (30_encoding.md R93). -/

namespace Sys2Proof

/-! ## What an entry of the dispatch table decodes to -/

/-- An absent entry decodes to the undefined instruction of its byte. -/
@[simp] theorem decodeEntry_absent_eq_ok {b0 : Byte} {rest left : List Byte} {i : Instr} :
    decodeEntry b0 .absent rest = .ok (i, left) ↔ i = .undefined b0 ∧ left = rest := by
  simp [decodeEntry, eq_comm]

/-- An entry without operand bytes decodes to its instruction. -/
@[simp] theorem decodeEntry_op0_eq_ok {b0 : Byte} {j i : Instr} {rest left : List Byte} :
    decodeEntry b0 (.op0 j) rest = .ok (i, left) ↔ i = j ∧ left = rest := by
  simp [decodeEntry, eq_comm]

/-- An entry with one operand byte decodes when there is one. -/
@[simp] theorem decodeEntry_op1_eq_ok {b0 : Byte} {f : Byte → Instr} {rest left : List Byte} {i : Instr} :
    decodeEntry b0 (.op1 f) rest = .ok (i, left) ↔ ∃ b1, i = f b1 ∧ rest = b1 :: left := by
  cases rest with
  | nil => simp [decodeEntry]
  | cons b1 rest => simp [decodeEntry, eq_comm]

/-- An entry with two operand bytes decodes when there are two. -/
@[simp] theorem decodeEntry_op2_eq_ok {b0 : Byte} {f : Addr → Instr} {rest left : List Byte} {i : Instr} :
    decodeEntry b0 (.op2 f) rest = .ok (i, left) ↔ ∃ b1 b2, i = f (word b1 b2) ∧ rest = b1 :: b2 :: left := by
  match rest with
  | [] => simp [decodeEntry]
  | [_] => simp [decodeEntry]
  | b1 :: b2 :: rest => simp [decodeEntry, eq_comm]

/-! ## The dispatch table is uniform -/

/-- The operand changes neither the mnemonic nor the mode of the entry's instruction, and the length of the mode is
the opcode byte and as many operand bytes as the entry takes. An absent entry has no operand, so nothing to ask. -/
def Entry.Uniform : Entry → Prop
  | .absent => True
  | .op0 i => i.length = 1
  | .op1 f => ∀ v v', (f v).mnemonic = (f v').mnemonic ∧ (f v).mode = (f v').mode ∧ (f v).length = 2
  | .op2 f => ∀ w w', (f w).mnemonic = (f w').mnemonic ∧ (f w).mode = (f w').mode ∧ (f w).length = 3

/-- Every entry of the opcode map is uniform, row by row (R94). -/
theorem uniform_of_mem_dispatchTable : ∀ e ∈ dispatchTable, e.Uniform := by
  simp only [dispatchTable, List.forall_mem_append]
  simp [dispatchRow0, dispatchRow1, dispatchRow2, dispatchRow3, dispatchRow4, dispatchRow5, dispatchRow6,
    dispatchRow7, dispatchRow8, dispatchRow9, dispatchRowA, dispatchRowB, dispatchRowC, dispatchRowD, dispatchRowE,
    dispatchRowF, Entry.Uniform, Instr.mnemonic, Instr.mode, Instr.length, Mode.length]

/-- What an opcode byte dispatches to stands in the table: the default is never met (R250). -/
theorem dispatch_mem_dispatchTable (op : Byte) : dispatch op ∈ dispatchTable := by
  have hop : op.toNat < dispatchTable.length := by
    rw [dispatchTable_length]
    exact op.isLt
  rw [dispatch, List.getD_eq_getElem _ _ hop]
  exact List.getElem_mem hop

/-! ## Decoding by one entry -/

/-- Whatever operand bytes follow, a uniform entry decodes to one mnemonic in one mode and consumes the bytes the mode
says. -/
theorem Entry.Uniform.decodeEntry_shape {e : Entry} (he : e.Uniform) {b0 : Byte} {r r' left left' : List Byte}
    {i i' : Instr} (h : decodeEntry b0 e r = .ok (i, left)) (h' : decodeEntry b0 e r' = .ok (i', left')) :
    i.mnemonic = i'.mnemonic ∧ i.mode = i'.mode ∧ (b0 :: r).length = i.length + left.length := by
  cases e with
  | absent =>
    obtain ⟨rfl, rfl⟩ := decodeEntry_absent_eq_ok.mp h
    obtain ⟨rfl, -⟩ := decodeEntry_absent_eq_ok.mp h'
    exact ⟨rfl, rfl, Nat.add_comm _ 1⟩
  | op0 j =>
    obtain ⟨rfl, rfl⟩ := decodeEntry_op0_eq_ok.mp h
    obtain ⟨rfl, -⟩ := decodeEntry_op0_eq_ok.mp h'
    have hlen : i'.length = 1 := he
    exact ⟨rfl, rfl, by rw [List.length_cons, hlen, Nat.add_comm]⟩
  | op1 f =>
    obtain ⟨b1, rfl, rfl⟩ := decodeEntry_op1_eq_ok.mp h
    obtain ⟨b1', rfl, -⟩ := decodeEntry_op1_eq_ok.mp h'
    obtain ⟨hmnemonic, hmode, hlen⟩ := he b1 b1'
    exact ⟨hmnemonic, hmode, by simp only [List.length_cons, hlen]; omega⟩
  | op2 f =>
    obtain ⟨b1, b2, rfl, rfl⟩ := decodeEntry_op2_eq_ok.mp h
    obtain ⟨b1', b2', rfl, -⟩ := decodeEntry_op2_eq_ok.mp h'
    obtain ⟨hmnemonic, hmode, hlen⟩ := he (word b1 b2) (word b1' b2')
    exact ⟨hmnemonic, hmode, by simp only [List.length_cons, hlen]; omega⟩

/-- Settles O5: both byte strings decode by the one entry their opcode byte dispatches to, and it is uniform. -/
theorem opcodeTellsLength : Obligations.OpcodeTellsLength := by
  unfold Obligations.OpcodeTellsLength
  intro op r r' left left' i i' h h'
  have he : (dispatch op).Uniform := uniform_of_mem_dispatchTable _ (dispatch_mem_dispatchTable op)
  obtain ⟨hmnemonic, hmode, hconsumed⟩ := he.decodeEntry_shape h h'
  exact ⟨hmnemonic, hmode, congrArg Mode.length hmode, hconsumed⟩

end Sys2Proof
end

section
/-! Loads, stores and register transfers (41_load_store_transfer.md R150 to R161). An obligation's entry for one form
is put together from three facts: what its opcode byte dispatches to, which semantic function `exec` applies to which
operand, and the result state of that semantic function. -/

namespace Sys2Proof

open Machine Rules

/-! ## One form of an instruction, by the number of its operand bytes -/

/-- A form without operand bytes. -/
theorem does_op0 {op : Byte} {i : Instr} {s t u : State} (hdispatch : dispatch op = .op0 i)
    (hexec : exec i s = .next u) (hresult : u = t) : Does [op] i s t :=
  ⟨by simp only [decode, hdispatch, decodeEntry], hresult ▸ hexec⟩

/-- A form with one operand byte. -/
theorem does_op1 {op v : Byte} {f : Byte → Instr} {s t u : State} (hdispatch : dispatch op = .op1 f)
    (hexec : exec (f v) s = .next u) (hresult : u = t) : Does [op, v] (f v) s t :=
  ⟨by simp only [decode, hdispatch, decodeEntry], hresult ▸ hexec⟩

/-- The last two bytes of `bytes3` are the operand's low and high byte (R92). -/
theorem bytes3_eq (op : Byte) (w : Addr) : bytes3 op w = [op, loByte w, hiByte w] := rfl

/-- A form with a 16-bit operand, low byte first. -/
theorem does_op2 {op : Byte} {w : Addr} {f : Addr → Instr} {s t u : State} (hdispatch : dispatch op = .op2 f)
    (hexec : exec (f w) s = .next u) (hresult : u = t) : Does (bytes3 op w) (f w) s t :=
  ⟨by simp only [bytes3_eq, decode, hdispatch, decodeEntry, word_loByte_hiByte], hresult ▸ hexec⟩

/-! ## Result states: a register loaded with its flags set, a byte stored -/

/-- A written, then N and Z set by the byte, with PC past the instruction: LDA, TXA and TYA. -/
theorem setNZ_advance_a (s : State) (len : Addr) (v : Byte) :
    { s.advance len with a := v }.setNZ v = loadedA s len v := rfl

/-- X written, then N and Z set by the byte, with PC past the instruction: LDX, TAX and TSX. -/
theorem setNZ_advance_x (s : State) (len : Addr) (v : Byte) :
    { s.advance len with x := v }.setNZ v = loadedX s len v := rfl

/-- Y written, then N and Z set by the byte, with PC past the instruction: LDY and TAY. -/
theorem setNZ_advance_y (s : State) (len : Addr) (v : Byte) :
    { s.advance len with y := v }.setNZ v = loadedY s len v := rfl

/-- Moving PC past the instruction moves no effective address. -/
@[simp] theorem effectiveAddress_advance (s : State) (len : Addr) (m : MemOperand) :
    effectiveAddress (s.advance len) m = effectiveAddress s m :=
  effectiveAddress_congr rfl rfl rfl m

/-- A store with PC past the instruction: the byte stands at the effective address of the state before. -/
theorem writeMem_advance (s : State) (len : Addr) (m : MemOperand) (v : Byte) :
    writeMem (s.advance len) m v = stored s len (effectiveAddress s m) v := by
  simp only [writeMem, effectiveAddress_advance]
  rfl

/-! ## The semantic functions, once for every operand -/

theorem semLda_eq_loadedA (s : State) (o : Source) : s.semLda o = loadedA s o.length (readSource s o) :=
  setNZ_advance_a s o.length (readSource s o)

theorem semLdx_eq_loadedX (s : State) (o : Source) : s.semLdx o = loadedX s o.length (readSource s o) :=
  setNZ_advance_x s o.length (readSource s o)

theorem semLdy_eq_loadedY (s : State) (o : Source) : s.semLdy o = loadedY s o.length (readSource s o) :=
  setNZ_advance_y s o.length (readSource s o)

theorem semSta_eq_stored (s : State) (m : MemOperand) : s.semSta m = stored s m.length (effectiveAddress s m) s.a :=
  writeMem_advance s m.length m s.a

theorem semStx_eq_stored (s : State) (m : MemOperand) : s.semStx m = stored s m.length (effectiveAddress s m) s.x :=
  writeMem_advance s m.length m s.x

theorem semSty_eq_stored (s : State) (m : MemOperand) : s.semSty m = stored s m.length (effectiveAddress s m) s.y :=
  writeMem_advance s m.length m s.y

/-! ## The obligations

Each line is one form: its dispatch entry and its arm of `exec` hold by evaluation, and the operand it names has the
length and the address that the table of R134 gives. -/

/-- Settles O23, form by form, from the one result state of LDA. -/
theorem ldaLoadsA : Obligations.LdaLoadsA := by
  unfold Obligations.LdaLoadsA
  intro s
  have lda := semLda_eq_loadedA s
  exact ⟨fun v => does_op1 rfl rfl (lda (.immediate v)),
    fun z => does_op1 rfl rfl (lda (.memory (.zeroPage z))),
    fun z => does_op1 rfl rfl (lda (.memory (.zeroPageX z))),
    fun w => does_op2 rfl rfl (lda (.memory (.absolute w))),
    fun w => does_op2 rfl rfl (lda (.memory (.absoluteX w))),
    fun w => does_op2 rfl rfl (lda (.memory (.absoluteY w))),
    fun z => does_op1 rfl rfl (lda (.memory (.indirectX z))),
    fun z => does_op1 rfl rfl (lda (.memory (.indirectY z)))⟩

/-- Settles O24, form by form, from the one result state of LDX and the one of LDY. -/
theorem ldxLdyLoadIndexRegisters : Obligations.LdxLdyLoadIndexRegisters := by
  unfold Obligations.LdxLdyLoadIndexRegisters
  intro s v z w
  have ldx := semLdx_eq_loadedX s
  have ldy := semLdy_eq_loadedY s
  exact ⟨does_op1 rfl rfl (ldx (.immediate v)),
    does_op1 rfl rfl (ldx (.memory (.zeroPage z))),
    does_op1 rfl rfl (ldx (.memory (.zeroPageY z))),
    does_op2 rfl rfl (ldx (.memory (.absolute w))),
    does_op2 rfl rfl (ldx (.memory (.absoluteY w))),
    does_op1 rfl rfl (ldy (.immediate v)),
    does_op1 rfl rfl (ldy (.memory (.zeroPage z))),
    does_op1 rfl rfl (ldy (.memory (.zeroPageX z))),
    does_op2 rfl rfl (ldy (.memory (.absolute w))),
    does_op2 rfl rfl (ldy (.memory (.absoluteX w)))⟩

/-- Settles O25, form by form: each store is the one memory write, of its own register. -/
theorem storesWriteTheirRegister : Obligations.StoresWriteTheirRegister := by
  unfold Obligations.StoresWriteTheirRegister
  intro s z w
  have sta := semSta_eq_stored s
  have stx := semStx_eq_stored s
  have sty := semSty_eq_stored s
  exact ⟨does_op1 rfl rfl (sta (.zeroPage z)),
    does_op1 rfl rfl (sta (.zeroPageX z)),
    does_op2 rfl rfl (sta (.absolute w)),
    does_op2 rfl rfl (sta (.absoluteX w)),
    does_op2 rfl rfl (sta (.absoluteY w)),
    does_op1 rfl rfl (sta (.indirectX z)),
    does_op1 rfl rfl (sta (.indirectY z)),
    does_op1 rfl rfl (stx (.zeroPage z)),
    does_op1 rfl rfl (stx (.zeroPageY z)),
    does_op2 rfl rfl (stx (.absolute w)),
    does_op1 rfl rfl (sty (.zeroPage z)),
    does_op1 rfl rfl (sty (.zeroPageX z)),
    does_op2 rfl rfl (sty (.absolute w))⟩

/-- Settles O26: five transfers load their register with their flags set, and TXS writes SP alone. -/
theorem transfersCopyRegisters : Obligations.TransfersCopyRegisters := by
  unfold Obligations.TransfersCopyRegisters
  intro s
  exact ⟨does_op0 rfl rfl (setNZ_advance_x s 1#16 s.a), does_op0 rfl rfl (setNZ_advance_y s 1#16 s.a),
    does_op0 rfl rfl (setNZ_advance_a s 1#16 s.x), does_op0 rfl rfl (setNZ_advance_a s 1#16 s.y),
    does_op0 rfl rfl (setNZ_advance_x s 1#16 s.sp), does_op0 rfl rfl rfl⟩

end Sys2Proof
end

section
/-! Arithmetic, logic, comparison, bit test, increment and decrement (42_arithmetic_logic.md R170 to R185). The eight
forms that read a source, and the four that modify a byte of memory, differ from one another in their operand alone:
what all forms of a mnemonic do follows from its semantic function, its dispatch entries and its arms of `exec`. -/

namespace Sys2Proof

open Machine Rules

/-! ## All forms of a mnemonic at once -/

/-- The eight forms that read a source, by their entries and arms in one list each: whatever follows from a form's
doing what the semantic function `sem` does with the operand `o` holds of all eight. -/
theorem eightSources_of_does {s : State} {P : List Byte → Instr → Addr → Byte → Prop} {sem : Source → State}
    {oImm oZp oZpX oAbs oAbsX oAbsY oIndX oIndY : Byte} {imm zpF zpXF : Byte → Instr}
    {absF absXF absYF : Addr → Instr} {indXF indYF : Byte → Instr}
    (hP : ∀ bytes i o, Does bytes i s (sem o) → P bytes i o.length (readSource s o))
    (hentries : [oImm, oZp, oZpX, oAbs, oAbsX, oAbsY, oIndX, oIndY].map dispatch =
      [.op1 imm, .op1 zpF, .op1 zpXF, .op2 absF, .op2 absXF, .op2 absYF, .op1 indXF, .op1 indYF])
    (harms : ∀ (b : Byte) (w : Addr),
      [imm b, zpF b, zpXF b, absF w, absXF w, absYF w, indXF b, indYF b].map (exec · s) =
        [.immediate b, .memory (.zeroPage b), .memory (.zeroPageX b), .memory (.absolute w), .memory (.absoluteX w),
          .memory (.absoluteY w), .memory (.indirectX b), .memory (.indirectY b)].map fun o => .next (sem o)) :
    EightSources s P oImm oZp oZpX oAbs oAbsX oAbsY oIndX oIndY imm zpF zpXF absF absXF absYF indXF indYF := by
  simp only [List.map_cons, List.map_nil, List.cons.injEq, and_true, forall_and, forall_const] at hentries harms
  obtain ⟨eImm, eZp, eZpX, eAbs, eAbsX, eAbsY, eIndX, eIndY⟩ := hentries
  obtain ⟨xImm, xZp, xZpX, xAbs, xAbsX, xAbsY, xIndX, xIndY⟩ := harms
  exact ⟨fun v => hP _ _ (.immediate v) (does_op1 eImm (xImm v) rfl),
    fun z => hP _ _ (.memory (.zeroPage z)) (does_op1 eZp (xZp z) rfl),
    fun z => hP _ _ (.memory (.zeroPageX z)) (does_op1 eZpX (xZpX z) rfl),
    fun w => hP _ _ (.memory (.absolute w)) (does_op2 eAbs (xAbs w) rfl),
    fun w => hP _ _ (.memory (.absoluteX w)) (does_op2 eAbsX (xAbsX w) rfl),
    fun w => hP _ _ (.memory (.absoluteY w)) (does_op2 eAbsY (xAbsY w) rfl),
    fun z => hP _ _ (.memory (.indirectX z)) (does_op1 eIndX (xIndX z) rfl),
    fun z => hP _ _ (.memory (.indirectY z)) (does_op1 eIndY (xIndY z) rfl)⟩

/-- The four forms that modify a byte of memory, when the semantic function `sem` is `t` of the operand's length and
effective address. -/
theorem fourPlaces_of_sem {s : State} {sem : MemOperand → State} {t : Addr → Addr → State}
    {oZp oZpX oAbs oAbsX : Byte} {zpF zpXF : Byte → Instr} {absF absXF : Addr → Instr}
    (hsem : ∀ m, sem m = t m.length (effectiveAddress s m))
    (hentries : [oZp, oZpX, oAbs, oAbsX].map dispatch = [.op1 zpF, .op1 zpXF, .op2 absF, .op2 absXF])
    (harms : ∀ (b : Byte) (w : Addr), [zpF b, zpXF b, absF w, absXF w].map (exec · s) =
      [.zeroPage b, .zeroPageX b, .absolute w, .absoluteX w].map fun m => .next (sem m)) :
    FourPlaces s t oZp oZpX oAbs oAbsX zpF zpXF absF absXF := by
  simp only [List.map_cons, List.map_nil, List.cons.injEq, and_true, forall_and, forall_const] at hentries harms
  obtain ⟨eZp, eZpX, eAbs, eAbsX⟩ := hentries
  obtain ⟨xZp, xZpX, xAbs, xAbsX⟩ := harms
  exact ⟨fun z => does_op1 eZp (xZp z) (hsem _), fun z => does_op1 eZpX (xZpX z) (hsem _),
    fun w => does_op2 eAbs (xAbs w) (hsem _), fun w => does_op2 eAbsX (xAbsX w) (hsem _)⟩

/-! ## The integer results of ADC and SBC, with the carry as the obligations write it -/

theorem adcSum_eq (a m : Byte) (c : Bool) : adcSum a m c = a.toNat + m.toNat + (if c then 1 else 0) := by
  cases c <;> rfl

theorem sbcDiff_eq (a m : Byte) (c : Bool) :
    sbcDiff a m c = (a.toNat : Int) - m.toNat - (if c then 0 else 1) := by
  cases c <;> rfl

/-- The A that ADC leaves is the result byte that its overflow function is asked about (R171). -/
theorem added_a (s : State) (len : Addr) (m : Byte) (v' : Bool) : (added s len m v').a = adcResult s.a m s.c := by
  simp only [added, adcResult, adcSum_eq]

/-- The A that SBC leaves is the result byte that its overflow function is asked about (R172). -/
theorem subtracted_a (s : State) (len : Addr) (m : Byte) (v' : Bool) :
    (subtracted s len m v').a = sbcResult s.a m s.c := by
  simp only [subtracted, sbcResult, sbcDiff_eq]

/-! ## The semantic functions, once for every operand -/

theorem semAdc_eq_added (s : State) (o : Source) :
    s.semAdc o = added s o.length (readSource s o)
      (adcOverflow s.params.overflowFn s.a (readSource s o) (adcResult s.a (readSource s o) s.c)) := by
  simp only [State.semAdc, added, adcCarry, adcResult, ← adcSum_eq]
  rfl

theorem semSbc_eq_subtracted (s : State) (o : Source) :
    s.semSbc o = subtracted s o.length (readSource s o)
      (sbcOverflow s.params.overflowFn s.a (readSource s o) (sbcResult s.a (readSource s o) s.c)) := by
  simp only [State.semSbc, subtracted, sbcCarry, sbcResult, ← sbcDiff_eq]
  rfl

theorem semAnd_eq_loadedA (s : State) (o : Source) : s.semAnd o = loadedA s o.length (s.a &&& readSource s o) :=
  setNZ_advance_a s o.length _

theorem semOra_eq_loadedA (s : State) (o : Source) : s.semOra o = loadedA s o.length (s.a ||| readSource s o) :=
  setNZ_advance_a s o.length _

theorem semEor_eq_loadedA (s : State) (o : Source) : s.semEor o = loadedA s o.length (s.a ^^^ readSource s o) :=
  setNZ_advance_a s o.length _

/-- A comparison with PC past the instruction: CMP, CPX and CPY, by the register they compare. -/
theorem compare_advance (s : State) (len : Addr) (reg m : Byte) :
    (s.advance len).compare reg m = compared s len reg m := rfl

theorem semCmp_eq_compared (s : State) (o : Source) : s.semCmp o = compared s o.length s.a (readSource s o) :=
  compare_advance s o.length s.a _

theorem semCpx_eq_compared (s : State) (o : Source) : s.semCpx o = compared s o.length s.x (readSource s o) :=
  compare_advance s o.length s.x _

theorem semCpy_eq_compared (s : State) (o : Source) : s.semCpy o = compared s o.length s.y (readSource s o) :=
  compare_advance s o.length s.y _

theorem semBit_eq_bitTested (s : State) (m : MemOperand) : s.semBit m = bitTested s m.length (readMem s m) := rfl

/-- The read is of the state before and the write goes to the same address, though PC has moved between them (R180). -/
theorem semInc_eq_modified (s : State) (m : MemOperand) :
    s.semInc m = modified (fun v => v + 1#8) s m.length (effectiveAddress s m) := by
  simp only [State.semInc, writeMem_advance]
  rfl

theorem semDec_eq_modified (s : State) (m : MemOperand) :
    s.semDec m = modified (fun v => v - 1#8) s m.length (effectiveAddress s m) := by
  simp only [State.semDec, writeMem_advance]
  rfl

/-! ## The obligations

The entries of the dispatch table and the arms of `exec` hold by evaluation. -/

/-- Settles O27: V is the parameter's function of A, the operand and the A left behind, for each value it can have. -/
theorem adcAddsWithCarry : Obligations.AdcAddsWithCarry := by
  unfold Obligations.AdcAddsWithCarry
  intro s
  refine eightSources_of_does (fun bytes i o hdoes => ?_) rfl (fun _ _ => rfl)
  refine ⟨_, semAdc_eq_added s o ▸ hdoes, fun hstandard => ?_, fun hunstated => ?_⟩
  · simp only [added_a, hstandard, adcOverflow]
  · simp only [added_a, hunstated, adcOverflow]

/-- Settles O28, by the same reading of V for SBC. -/
theorem sbcSubtractsWithBorrow : Obligations.SbcSubtractsWithBorrow := by
  unfold Obligations.SbcSubtractsWithBorrow
  intro s
  refine eightSources_of_does (fun bytes i o hdoes => ?_) rfl (fun _ _ => rfl)
  refine ⟨_, semSbc_eq_subtracted s o ▸ hdoes, fun hstandard => ?_, fun hunstated => ?_⟩
  · simp only [subtracted_a, hstandard, sbcOverflow]
  · simp only [subtracted_a, hunstated, sbcOverflow]

/-- Settles O30: each mnemonic loads A with its combination of A and the operand. -/
theorem logicCombinesWithA : Obligations.LogicCombinesWithA := by
  unfold Obligations.LogicCombinesWithA
  intro s
  exact ⟨eightSources_of_does (fun _ _ o hdoes => semAnd_eq_loadedA s o ▸ hdoes) rfl (fun _ _ => rfl),
    eightSources_of_does (fun _ _ o hdoes => semOra_eq_loadedA s o ▸ hdoes) rfl (fun _ _ => rfl),
    eightSources_of_does (fun _ _ o hdoes => semEor_eq_loadedA s o ▸ hdoes) rfl (fun _ _ => rfl)⟩

/-- Settles O31: the eight forms of CMP at once, CPX and CPY form by form. -/
theorem comparesSetFlagsOnly : Obligations.ComparesSetFlagsOnly := by
  unfold Obligations.ComparesSetFlagsOnly
  intro s
  have cmp := semCmp_eq_compared s
  have cpx := semCpx_eq_compared s
  have cpy := semCpy_eq_compared s
  refine ⟨eightSources_of_does (fun _ _ o hdoes => cmp o ▸ hdoes) rfl (fun _ _ => rfl), fun v z w => ?_⟩
  exact ⟨does_op1 rfl rfl (cpx (.immediate v)),
    does_op1 rfl rfl (cpx (.memory (.zeroPage z))),
    does_op2 rfl rfl (cpx (.memory (.absolute w))),
    does_op1 rfl rfl (cpy (.immediate v)),
    does_op1 rfl rfl (cpy (.memory (.zeroPage z))),
    does_op2 rfl rfl (cpy (.memory (.absolute w)))⟩

/-- Settles O32, form by form, from the one result state of BIT. -/
theorem bitTestsOperand : Obligations.BitTestsOperand := by
  unfold Obligations.BitTestsOperand
  intro s z w
  exact ⟨does_op1 rfl rfl (semBit_eq_bitTested s (.zeroPage z)),
    does_op2 rfl rfl (semBit_eq_bitTested s (.absolute w))⟩

/-- Settles O33: INC and DEC modify the byte at one address, and the others load their register with their flags set. -/
theorem incrementsAndDecrements : Obligations.IncrementsAndDecrements := by
  unfold Obligations.IncrementsAndDecrements
  intro s
  exact ⟨fourPlaces_of_sem (semInc_eq_modified s) rfl (fun _ _ => rfl),
    fourPlaces_of_sem (semDec_eq_modified s) rfl (fun _ _ => rfl),
    does_op0 rfl rfl (setNZ_advance_x s 1#16 (s.x + 1#8)), does_op0 rfl rfl (setNZ_advance_y s 1#16 (s.y + 1#8)),
    does_op0 rfl rfl (setNZ_advance_x s 1#16 (s.x - 1#8)), does_op0 rfl rfl (setNZ_advance_y s 1#16 (s.y - 1#8))⟩

end Sys2Proof
end

section
/-! Shifts and rotates (43_shift_rotate.md R200 to R203). The four mnemonics differ in the result and the carry they
make of the operand and the old C: what `State.shiftTo` leaves is stated once for A and once for a byte of memory, for
every such function. -/

namespace Sys2Proof

open Machine Rules

/-! ## The result state, for any result and carry -/

theorem shiftTo_accumulator_eq_shiftedA (f : Byte → Bool → Byte × Bool) (s : State) :
    s.shiftTo .accumulator (f s.a s.c).2 (f s.a s.c).1 = shiftedA f s := rfl

/-- Neither PC nor C moves an effective address, so the result goes to the address that was read (R120). -/
theorem shiftTo_memory_eq_shiftedMem (f : Byte → Bool → Byte × Bool) (s : State) (m : MemOperand) :
    s.shiftTo (.memory m) (f (readMem s m) s.c).2 (f (readMem s m) s.c).1 =
      shiftedMem f s m.length (effectiveAddress s m) := by
  have hea (carry : Bool) : effectiveAddress { s.advance m.length with c := carry } m = effectiveAddress s m :=
    effectiveAddress_congr rfl rfl rfl m
  simp only [State.shiftTo, writePlace, writeMem, Place.length, hea]
  rfl

/-! ## The semantic functions of ASL and LSR -/

theorem semAsl_eq_shiftedA (s : State) : s.semAsl .accumulator = shiftedA asl s :=
  shiftTo_accumulator_eq_shiftedA asl s

theorem semAsl_eq_shiftedMem (s : State) (m : MemOperand) :
    s.semAsl (.memory m) = shiftedMem asl s m.length (effectiveAddress s m) :=
  shiftTo_memory_eq_shiftedMem asl s m

theorem semLsr_eq_shiftedA (s : State) : s.semLsr .accumulator = shiftedA lsr s :=
  shiftTo_accumulator_eq_shiftedA lsr s

theorem semLsr_eq_shiftedMem (s : State) (m : MemOperand) :
    s.semLsr (.memory m) = shiftedMem lsr s m.length (effectiveAddress s m) :=
  shiftTo_memory_eq_shiftedMem lsr s m

/-- Settles O34: the Accumulator form and the four memory forms of each mnemonic, from its two result states. -/
theorem shiftsMoveOneBit : Obligations.ShiftsMoveOneBit := by
  unfold Obligations.ShiftsMoveOneBit
  intro s
  exact ⟨does_op0 rfl rfl (semAsl_eq_shiftedA s),
    fourPlaces_of_sem (semAsl_eq_shiftedMem s) rfl (fun _ _ => rfl),
    does_op0 rfl rfl (semLsr_eq_shiftedA s),
    fourPlaces_of_sem (semLsr_eq_shiftedMem s) rfl (fun _ _ => rfl)⟩

end Sys2Proof
end

section
/-! Branches and JMP absolute (44_control_transfer.md R210 to R219). The eight branches are one branch rule on one
flag: four take the branch when the flag is set, four when it is clear. -/

namespace Sys2Proof

open Machine Rules

/-! ## The branch rule on one flag -/

/-- A branch whose condition is the flag itself: BCS, BEQ, BMI and BVS. -/
theorem branch_flag_eq_branched_of_set (s : State) (flag : Bool) (d : Byte) :
    s.branch flag d = branched s (decide (flag = true)) d := by
  rw [Bool.decide_eq_true]
  rfl

/-- A branch whose condition is the flag negated: BCC, BNE, BPL and BVC. -/
theorem branch_not_flag_eq_branched_of_clear (s : State) (flag : Bool) (d : Byte) :
    s.branch (!flag) d = branched s (decide (flag = false)) d := by
  rw [Bool.decide_eq_false]
  rfl

/-! ## The obligations -/

/-- Settles O37, branch by branch, each by the flag it tests and the value it takes the branch on. -/
theorem branchesTestOneFlag : Obligations.BranchesTestOneFlag := by
  unfold Obligations.BranchesTestOneFlag
  intro s d
  have onSet (flag : Bool) := branch_flag_eq_branched_of_set s flag d
  have onClear (flag : Bool) := branch_not_flag_eq_branched_of_clear s flag d
  exact ⟨does_op1 rfl rfl (onClear s.c), does_op1 rfl rfl (onSet s.c),
    does_op1 rfl rfl (onSet s.z), does_op1 rfl rfl (onClear s.z),
    does_op1 rfl rfl (onSet s.n), does_op1 rfl rfl (onClear s.n),
    does_op1 rfl rfl (onClear s.v), does_op1 rfl rfl (onSet s.v)⟩

/-- Settles O38: the result state is the one `State.semJmpAbsolute` is defined to be, so memory is not read. -/
theorem jmpAbsoluteGoesToOperand : Obligations.JmpAbsoluteGoesToOperand := by
  unfold Obligations.JmpAbsoluteGoesToOperand
  intro s w
  have hresult : s.semJmpAbsolute w = { s with pc := w } := rfl
  exact does_op2 rfl rfl hresult

end Sys2Proof
end

section
/-! PHA, PLA, the flag instructions and NOP (45_stack_flag_misc.md R230, R232, R234 to R241). The obligations name a
stack slot by its distance from SP, the model by the value of SP. -/

namespace Sys2Proof

open Machine Rules

/-! ## Stack slots -/

/-- The slot `k` above SP is the one that SP plus `k`, modulo 256, names (R68). -/
theorem slot_eq_stackAddr (s : State) (k : Byte) : slot s k = stackAddr (s.sp + k) := rfl

/-- The slot that SP itself names, where a push writes (R66). -/
@[simp] theorem slot_zero (s : State) : slot s 0#8 = stackAddr s.sp := by
  rw [slot_eq_stackAddr, BitVec.add_zero]

/-! ## Result states: a byte pushed, A pulled with its flags set -/

/-- A push with PC past the instruction: PHA and PHP, by the byte they push. -/
theorem push_advance (s : State) (len : Addr) (v : Byte) :
    (s.advance len).push v =
      { s with pc := s.pc + len, mem := s.mem.write (slot s 0#8) v, sp := s.sp - 1#8 } := by
  rw [slot_zero]
  rfl

/-- PLA loads A from the slot above SP, and SP moves up to it (R232). -/
theorem semPla_eq_loadedA (s : State) :
    s.semPla = { loadedA s 1#16 (s.mem.read (slot s 1#8)) with sp := s.sp + 1#8 } := rfl

/-! ## The obligations -/

/-- Settles O44: PHA is one push of A, and PLA one load of A from the slot it pulls. -/
theorem phaPlaMoveA : Obligations.PhaPlaMoveA := by
  unfold Obligations.PhaPlaMoveA
  intro s
  exact ⟨does_op0 rfl rfl (push_advance s 1#16 s.a), does_op0 rfl rfl (semPla_eq_loadedA s)⟩

/-- Settles O47, instruction by instruction: each result state is the one its semantic function is defined to be. -/
theorem flagInstructionsAndNop : Obligations.FlagInstructionsAndNop := by
  unfold Obligations.FlagInstructionsAndNop
  intro s
  exact ⟨does_op0 (u := s.semClc) rfl rfl rfl, does_op0 (u := s.semCld) rfl rfl rfl,
    does_op0 (u := s.semCli) rfl rfl rfl, does_op0 (u := s.semClv) rfl rfl rfl,
    does_op0 (u := s.semSec) rfl rfl rfl, does_op0 (u := s.semSed) rfl rfl rfl,
    does_op0 (u := s.semSei) rfl rfl rfl, does_op0 (u := s.semNop) rfl rfl rfl⟩

end Sys2Proof
end

section
/-! Where no instruction executes (48_dispatch_loop.md R256): outside the running loop, and in every host request but
`step()`. The requests are split by `host_cases`; `reset()` writes everything and is left out. -/

namespace Sys2Proof

open Machine

/-- Outside Running the loop's own step executes nothing (R256). -/
theorem step_of_not_running {s : State} (h : s.loopState ≠ .running) : step s = .next s := by
  unfold step loopStep
  cases hl : s.loopState with
  | running => exact absurd hl h
  | idle | paused | halted => rfl

/-- An accepted request other than `step()` and `reset()` writes at most B, PauseReq, LoopState and memory, and memory
only if it is `burn` (R256, R257, R261, R262, R265, R266). -/
theorem host_writes_only_control_and_burned {r : HostRequest} {s t : State} (hstep : r ≠ .step) (hreset : r ≠ .reset)
    (h : host r s = .next t) :
    ∃ b p l m, t = { s with b := b, pauseReq := p, loopState := l, mem := m } ∧
      ((∀ bytes load, r ≠ .burn bytes load) → m = s.mem) := by
  obtain ⟨rfl, -⟩ | ⟨bytes, load, rfl, -, -, rfl⟩ | ⟨rfl, -, rfl⟩ | ⟨rfl, -⟩ | ⟨rfl, -, rfl⟩ | ⟨rfl, -, rfl⟩ |
    ⟨rfl, -, rfl⟩ | ⟨rfl, -, rfl⟩ | ⟨rfl, rfl⟩ := host_cases h
  case inl => exact absurd rfl hreset
  case inr.inl => exact ⟨_, _, _, _, rfl, fun hburn => absurd rfl (hburn bytes load)⟩
  case inr.inr.inr.inl => exact absurd rfl hstep
  all_goals exact ⟨_, _, _, _, rfl, fun _ => rfl⟩

/-- Settles O9: the fields it lists are those no accepted request but `step()` and `reset()` writes. -/
theorem onlyRunningOrHostStepExecutes : Obligations.OnlyRunningOrHostStepExecutes := by
  unfold Obligations.OnlyRunningOrHostStepExecutes
  refine ⟨fun s => step_of_not_running, fun r s t hstep hreset h => ?_⟩
  obtain ⟨b, p, l, m, rfl, hmem⟩ := host_writes_only_control_and_burned hstep hreset h
  exact ⟨rfl, rfl, rfl, rfl, rfl, rfl, rfl, rfl, rfl, rfl, rfl, rfl, hmem⟩

end Sys2Proof
end

section
/-! `reset()` (70_reset_and_hazards.md R300): one equation gives the state it leaves from any state; the table of R41
is that state field by field, with memory seen through reads. -/

namespace Sys2Proof

open Machine

/-- `reset()` is never refused and keeps nothing of the state; only the parameters, which are no state, stay (R300). -/
@[simp] theorem host_reset (s : State) : host .reset s = .next { State.reset with params := s.params } := rfl

/-- Memory as reset leaves it reads $00 at every address (R41, "memory zeroed"). -/
theorem reset_mem_read (addr : Addr) : State.reset.mem.read addr = 0#8 := Memory.read_nil addr

/-- Settles O15: the state that `host_reset` gives, field by field, and its memory by `reset_mem_read`. -/
theorem resetSetsEveryField : Obligations.ResetSetsEveryField := by
  unfold Obligations.ResetSetsEveryField
  intro s
  exact ⟨_, host_reset s,
    rfl, rfl, rfl, rfl, rfl,
    rfl, rfl, rfl, rfl, rfl, rfl, rfl,
    reset_mem_read, rfl, rfl, rfl⟩

end Sys2Proof
end

section
/-! Encoding and decoding agree (30_encoding.md R90 to R96). From an instruction to its bytes the case split is over
the instructions; from bytes to an instruction it is over the entries of the dispatch table. -/

namespace Sys2Proof

open Machine Rules

/-! ## The undefined bytes -/

/-- The byte has no entry (R250). -/
def Entry.isAbsent : Entry → Bool
  | .absent => true
  | .op0 _ | .op1 _ | .op2 _ => false

theorem Entry.isAbsent_iff {e : Entry} : e.isAbsent = true ↔ e = .absent := by
  cases e <;> simp [Entry.isAbsent]

theorem isUndefinedByte_iff {op : Byte} : isUndefinedByte op = true ↔ op ∈ undefinedBytes :=
  List.contains_iff_mem

/-- The 105 listed bytes are absent from the dispatch table (R95, R250). -/
theorem dispatch_of_mem_undefinedBytes {op : Byte} (h : op ∈ undefinedBytes) : dispatch op = .absent := by
  have hall : undefinedBytes.all (fun op => (dispatch op).isAbsent) = true := by decide
  exact Entry.isAbsent_iff.mp (List.all_eq_true.mp hall op h)

/-- An undefined byte decodes by itself, whatever follows (R93, R96). -/
theorem decode_of_mem_undefinedBytes {op : Byte} (h : op ∈ undefinedBytes) (rest : List Byte) :
    decode (op :: rest) = .ok (.undefined op, rest) := by
  simp only [decode, dispatch_of_mem_undefinedBytes h, decodeEntry]

/-! ## From an instruction to its bytes and back -/

/-- A 16-bit operand laid out low byte first is put together again (R92). -/
theorem decode_word_operand {op : Byte} {f : Addr → Instr} (hdispatch : dispatch op = .op2 f) (w : Addr)
    (rest : List Byte) : decode (op :: loByte w :: hiByte w :: rest) = .ok (f w, rest) := by
  simp only [decode, hdispatch, decodeEntry, word_loByte_hiByte]

/-- Settles O1: a 16-bit operand is put together again from its two bytes, an undefined byte is absent from the table,
and every other instruction is what its opcode byte dispatches to, by evaluation. -/
theorem decodeEncodeAgree : Obligations.DecodeEncodeAgree := by
  unfold Obligations.DecodeEncodeAgree
  intro i rest hwf
  cases i with
  | ldaAbsolute w | ldaAbsoluteX w | ldaAbsoluteY w | ldxAbsolute w | ldxAbsoluteY w | ldyAbsolute w
  | ldyAbsoluteX w | staAbsolute w | staAbsoluteX w | staAbsoluteY w | stxAbsolute w | styAbsolute w
  | adcAbsolute w | adcAbsoluteX w | adcAbsoluteY w | sbcAbsolute w | sbcAbsoluteX w | sbcAbsoluteY w
  | andAbsolute w | andAbsoluteX w | andAbsoluteY w | oraAbsolute w | oraAbsoluteX w | oraAbsoluteY w
  | eorAbsolute w | eorAbsoluteX w | eorAbsoluteY w | cmpAbsolute w | cmpAbsoluteX w | cmpAbsoluteY w
  | cpxAbsolute w | cpyAbsolute w | bitAbsolute w | incAbsolute w | incAbsoluteX w | decAbsolute w
  | decAbsoluteX w | aslAbsolute w | aslAbsoluteX w | lsrAbsolute w | lsrAbsoluteX w | rolAbsolute w
  | rolAbsoluteX w | rorAbsolute w | rorAbsoluteX w | jmpAbsolute w | jmpIndirect w | jsr w =>
    exact decode_word_operand rfl w rest
  | undefined op => exact decode_of_mem_undefinedBytes (isUndefinedByte_iff.mp hwf) rest
  | _ => rfl

/-! ## From bytes to an instruction and back -/

/-- The instructions of an entry at the opcode byte `op` are well formed, and encoded as `op` and their operand bytes;
an absent entry is one of the listed bytes. -/
def Entry.EncodedBy (op : Byte) : Entry → Prop
  | .absent => isUndefinedByte op = true
  | .op0 i => (i.wellFormed, encode i) = (true, [op])
  | .op1 f => (fun v => ((f v).wellFormed, encode (f v))) = fun v => (true, [op, v])
  | .op2 f => (fun w => ((f w).wellFormed, encode (f w))) = fun w => (true, [op, loByte w, hiByte w])

/-- Every entry of the opcode map stands at the byte its instructions are encoded with, byte value by byte value (R94). -/
theorem dispatch_encodedBy (op : Byte) : (dispatch op).EncodedBy op := by
  obtain ⟨k, hk⟩ := op
  have hk256 : k < 256 := hk
  interval_cases k <;> exact rfl

/-- What an entry decodes to is well formed, and its encoding is the opcode byte and the operand bytes consumed. -/
theorem Entry.EncodedBy.encode_of_decodeEntry {op : Byte} {e : Entry} (he : e.EncodedBy op) {tail rest : List Byte}
    {i : Instr} (h : decodeEntry op e tail = .ok (i, rest)) :
    i.wellFormed = true ∧ encode i ++ rest = op :: tail := by
  cases e with
  | absent =>
    obtain ⟨rfl, rfl⟩ := decodeEntry_absent_eq_ok.mp h
    exact ⟨he, rfl⟩
  | op0 j =>
    obtain ⟨rfl, rfl⟩ := decodeEntry_op0_eq_ok.mp h
    obtain ⟨hwf, henc⟩ := Prod.mk.inj he
    exact ⟨hwf, by rw [henc, List.singleton_append]⟩
  | op1 f =>
    obtain ⟨b1, rfl, rfl⟩ := decodeEntry_op1_eq_ok.mp h
    obtain ⟨hwf, henc⟩ := Prod.mk.inj (congrFun he b1)
    exact ⟨hwf, by rw [henc, List.cons_append, List.singleton_append]⟩
  | op2 f =>
    obtain ⟨b1, b2, rfl, rfl⟩ := decodeEntry_op2_eq_ok.mp h
    obtain ⟨hwf, henc⟩ := Prod.mk.inj (congrFun he (word b1 b2))
    exact ⟨hwf, by rw [henc, loByte_word, hiByte_word, List.cons_append, List.cons_append, List.singleton_append]⟩

/-- Settles O2, by the entry the opcode byte dispatches to. -/
theorem encodeDecodeAgree : Obligations.EncodeDecodeAgree := by
  unfold Obligations.EncodeDecodeAgree
  intro bytes i rest h
  cases bytes with
  | nil => cases h
  | cons op tail => exact (dispatch_encodedBy op).encode_of_decodeEntry h

/-- Settles O3: each string begins with an opcode byte whose entry the map gives, and the operand follows it. -/
theorem sampleWordsDecode : Obligations.SampleWordsDecode := by
  unfold Obligations.SampleWordsDecode
  exact ⟨rfl, rfl, rfl, rfl, rfl, rfl, rfl, rfl⟩

/-- UNDEFINED is the mnemonic of the undefined instructions alone. -/
theorem eq_undefined_of_mnemonic {i : Instr} (h : i.mnemonic = .undefined) : ∃ op, i = .undefined op := by
  cases i with
  | undefined op => exact ⟨op, rfl⟩
  | _ => cases h

/-- Settles O4: the listed bytes are absent from the table, and what decodes as undefined is one of them, since it is
well formed and encoded as its own byte. -/
theorem undefinedBytesAreThe105 : Obligations.UndefinedBytesAreThe105 := by
  unfold Obligations.UndefinedBytesAreThe105
  refine ⟨rfl, by decide, fun op rest h => decode_of_mem_undefinedBytes h rest, fun op rest i left hop h hi => ?_⟩
  obtain ⟨hwf, henc⟩ := encodeDecodeAgree _ _ _ h
  obtain ⟨op', rfl⟩ := eq_undefined_of_mnemonic hi
  obtain ⟨rfl, -⟩ := List.cons.inj henc
  exact hop (isUndefinedByte_iff.mp hwf)

/-! ## What the machine fetches -/

/-- Settles O6: the instruction the machine fetches is the one its three bytes decode to. -/
theorem stepRunsDecodedInstruction : Obligations.StepRunsDecodedInstruction := by
  unfold Obligations.StepRunsDecodedInstruction
  intro s i rest hl hb hp hdecode
  have hfetch : s.fetch = i := decodeWindow_of_decode hdecode
  rw [step_running hl hb hp, hfetch]

/-- The length the opcode table gives is the number of bytes of the encoding (R91, R93). -/
theorem length_encode (i : Instr) : (encode i).length = i.length := by
  cases i <;> rfl

/-- No instruction is longer than the three bytes of the window. -/
theorem length_encode_le (i : Instr) : (encode i).length ≤ 3 := by
  rw [length_encode, Instr.length]
  cases i.mode <;> decide

/-- The bytes the machine fetches begin with an encoding that stands at PC, modulo 2^16 (R69, R90). -/
theorem window_eq_encode_append {s : State} {i : Instr}
    (hbytes : ∀ (k : Nat) (h : k < (encode i).length), s.mem.read (s.pc + BitVec.ofNat 16 k) = (encode i)[k]) :
    ∃ rest, [s.mem.read s.pc, s.mem.read (s.pc + 1#16), s.mem.read (s.pc + 2#16)] = encode i ++ rest := by
  refine ⟨_, (List.take_append_drop (encode i).length _).symm.trans (congrArg (· ++ _) ?_)⟩
  refine List.ext_getElem (by simpa using length_encode_le i) fun k hk hk' => ?_
  have hk3 : k < 3 := hk'.trans_le (length_encode_le i)
  rw [List.getElem_take, ← hbytes k hk']
  interval_cases k
  · rw [BitVec.add_zero]; rfl
  · rfl
  · rfl

/-- Settles O7: the encoding begins the bytes fetched, so they decode to the instruction. -/
theorem stepRunsTheBytesInMemory : Obligations.StepRunsTheBytesInMemory := by
  unfold Obligations.StepRunsTheBytesInMemory
  intro s i hwf hl hb hp hbytes
  obtain ⟨rest, hwindow⟩ := window_eq_encode_append hbytes
  have hdecode := decodeEncodeAgree i rest hwf
  rw [← hwindow] at hdecode
  exact stepRunsDecodedInstruction s i rest hl hb hp hdecode

end Sys2Proof
end

section
/-! What `exec` can be, said once (48_dispatch_loop.md R252): the semantic function of the mnemonic on the operand of
the mode. Facts about every instruction are then one case a mnemonic. -/

namespace Sys2Proof

open Machine Rules

/-! ## Operands and their modes -/

/-- The mode whose operand it is (R120). -/
def Machine.MemOperand.mode : MemOperand → Mode
  | .zeroPage _ => .zeroPage
  | .zeroPageX _ => .zeroPageX
  | .zeroPageY _ => .zeroPageY
  | .absolute _ => .absolute
  | .absoluteX _ => .absoluteX
  | .absoluteY _ => .absoluteY
  | .indirectX _ => .indirectX
  | .indirectY _ => .indirectY

/-- Immediate, or the mode of the memory operand (R123). -/
def Machine.Source.mode : Source → Mode
  | .immediate _ => .immediate
  | .memory m => m.mode

/-- Accumulator, or the mode of the memory operand (R122). -/
def Machine.Place.mode : Place → Mode
  | .accumulator => .accumulator
  | .memory m => m.mode

/-- The memory operand, if it is one. -/
def Machine.Source.operand : Source → Option MemOperand
  | .immediate _ => none
  | .memory m => some m

/-- The memory operand, if it is one. -/
def Machine.Place.operand : Place → Option MemOperand
  | .accumulator => none
  | .memory m => some m

/-! ## The meanings -/

/-- `Meaning n f k o`: the mnemonic `n`, in the mode `k` and with the memory operand `o`, makes `f s` of the state `s`. -/
inductive Meaning : Mnemonic → (State → State) → Mode → Option MemOperand → Prop
  | lda (o : Source) : Meaning .lda (·.semLda o) o.mode o.operand
  | ldx (o : Source) : Meaning .ldx (·.semLdx o) o.mode o.operand
  | ldy (o : Source) : Meaning .ldy (·.semLdy o) o.mode o.operand
  | adc (o : Source) : Meaning .adc (·.semAdc o) o.mode o.operand
  | sbc (o : Source) : Meaning .sbc (·.semSbc o) o.mode o.operand
  | and (o : Source) : Meaning .and (·.semAnd o) o.mode o.operand
  | ora (o : Source) : Meaning .ora (·.semOra o) o.mode o.operand
  | eor (o : Source) : Meaning .eor (·.semEor o) o.mode o.operand
  | cmp (o : Source) : Meaning .cmp (·.semCmp o) o.mode o.operand
  | cpx (o : Source) : Meaning .cpx (·.semCpx o) o.mode o.operand
  | cpy (o : Source) : Meaning .cpy (·.semCpy o) o.mode o.operand
  | sta (m : MemOperand) : Meaning .sta (·.semSta m) m.mode (some m)
  | stx (m : MemOperand) : Meaning .stx (·.semStx m) m.mode (some m)
  | sty (m : MemOperand) : Meaning .sty (·.semSty m) m.mode (some m)
  | bit (m : MemOperand) : Meaning .bit (·.semBit m) m.mode (some m)
  | inc (m : MemOperand) : Meaning .inc (·.semInc m) m.mode (some m)
  | dec (m : MemOperand) : Meaning .dec (·.semDec m) m.mode (some m)
  | asl (o : Place) : Meaning .asl (·.semAsl o) o.mode o.operand
  | lsr (o : Place) : Meaning .lsr (·.semLsr o) o.mode o.operand
  | rol (o : Place) : Meaning .rol (·.semRol o) o.mode o.operand
  | ror (o : Place) : Meaning .ror (·.semRor o) o.mode o.operand
  | bcc (d : Byte) : Meaning .bcc (·.semBcc d) .relative none
  | bcs (d : Byte) : Meaning .bcs (·.semBcs d) .relative none
  | beq (d : Byte) : Meaning .beq (·.semBeq d) .relative none
  | bne (d : Byte) : Meaning .bne (·.semBne d) .relative none
  | bmi (d : Byte) : Meaning .bmi (·.semBmi d) .relative none
  | bpl (d : Byte) : Meaning .bpl (·.semBpl d) .relative none
  | bvc (d : Byte) : Meaning .bvc (·.semBvc d) .relative none
  | bvs (d : Byte) : Meaning .bvs (·.semBvs d) .relative none
  | jmpAbsolute (w : Addr) : Meaning .jmp (·.semJmpAbsolute w) .absolute none
  | jmpIndirect (w : Addr) : Meaning .jmp (·.semJmpIndirect w) .indirect none
  | jsr (w : Addr) : Meaning .jsr (·.semJsr w) .absolute none
  | tax : Meaning .tax State.semTax .implied none
  | tay : Meaning .tay State.semTay .implied none
  | txa : Meaning .txa State.semTxa .implied none
  | tya : Meaning .tya State.semTya .implied none
  | tsx : Meaning .tsx State.semTsx .implied none
  | txs : Meaning .txs State.semTxs .implied none
  | inx : Meaning .inx State.semInx .implied none
  | iny : Meaning .iny State.semIny .implied none
  | dex : Meaning .dex State.semDex .implied none
  | dey : Meaning .dey State.semDey .implied none
  | rts : Meaning .rts State.semRts .implied none
  | rti : Meaning .rti State.semRti .implied none
  | brk : Meaning .brk State.semBrk .implied none
  | pha : Meaning .pha State.semPha .implied none
  | php : Meaning .php State.semPhp .implied none
  | pla : Meaning .pla State.semPla .implied none
  | plp : Meaning .plp State.semPlp .implied none
  | clc : Meaning .clc State.semClc .implied none
  | cld : Meaning .cld State.semCld .implied none
  | cli : Meaning .cli State.semCli .implied none
  | clv : Meaning .clv State.semClv .implied none
  | sec : Meaning .sec State.semSec .implied none
  | sed : Meaning .sed State.semSed .implied none
  | sei : Meaning .sei State.semSei .implied none
  | nop : Meaning .nop State.semNop .implied none
  | undefined (op : Byte) : Meaning .undefined (fun s => (s.advance 1#16).diagnose s.pc op) .absent none

/-- Every instruction has a meaning, of its own mnemonic, mode and memory operand, and `exec` answers what it makes:
the arm of `exec` gives the function, and the mnemonic the constructor. -/
theorem exec_meaning (i : Instr) :
    ∃ f, Meaning i.mnemonic f i.mode i.memOperand ∧ ∀ s, exec i s = .next (f s) := by
  cases i <;> exact ⟨_, by constructor, fun _ => rfl⟩

/-- What an answer of `exec` came from: a meaning of the instruction, which answers in every state. -/
theorem meaning_of_exec {i : Instr} {s t : State} (h : exec i s = .next t) :
    ∃ f, Meaning i.mnemonic f i.mode i.memOperand ∧ (∀ u, exec i u = .next (f u)) ∧ t = f s := by
  obtain ⟨f, hf, hexec⟩ := exec_meaning i
  exact ⟨f, hf, hexec, Host.Outcome.next.inj (h.symm.trans (hexec s))⟩

end Sys2Proof
end

section
/-! What an instruction writes and reads (10_state.md R24 to R40, R186, R251): one case a mnemonic for each kind of
state. Where the operand is read, it is through X, Y and memory alone. -/

namespace Sys2Proof

open Machine Rules

/-! ## Flags -/

/-- The seven flags (R29 to R35). -/
inductive Flag
  | n | v | b | d | i | z | c

/-- The flag's value in a state. -/
def Flag.get : Flag → State → Bool
  | .n, s => s.n
  | .v, s => s.v
  | .b, s => s.b
  | .d, s => s.d
  | .i, s => s.i
  | .z, s => s.z
  | .c, s => s.c

/-- The state with the flag set to a value and nothing else changed. -/
def Flag.set : Flag → Bool → State → State
  | .n, x, s => { s with n := x }
  | .v, x, s => { s with v := x }
  | .b, x, s => { s with b := x }
  | .d, x, s => { s with d := x }
  | .i, x, s => { s with i := x }
  | .z, x, s => { s with z := x }
  | .c, x, s => { s with c := x }

/-- The mnemonics that write the flag, as the spec lists them. -/
def Flag.writers : Flag → List Mnemonic
  | .n | .z => writersNZ
  | .v => writersV
  | .b => writersB
  | .d => writersD
  | .i => writersI
  | .c => writersC

/-- The mnemonics that read the flag, as the spec lists them: PHP alone reads B, D and I. -/
def Flag.readers : Flag → List Mnemonic
  | .n => readersN
  | .v => readersV
  | .z => readersZ
  | .c => readersC
  | .b | .d | .i => [.php]

section

variable {n : Mnemonic} {f : State → State} {k : Mode} {o : Option MemOperand}

/-- A flag changes only by its writers. Said with a conditional, every case holds by evaluation: of a writer it says
nothing. -/
theorem Meaning.get_flag (h : Meaning n f k o) (fl : Flag) (s : State) :
    fl.get (f s) = if n ∈ fl.writers then fl.get (f s) else fl.get s := by
  cases h with
  | asl o | lsr o | rol o | ror o => cases o <;> cases fl <;> rfl
  | _ => cases fl <;> rfl

/-- A flag set otherwise before changes nothing but the flag itself, where it is not written: of a reader it says
nothing. -/
theorem Meaning.set_flag (h : Meaning n f k o) (fl : Flag) (x : Bool) (s : State) :
    f (fl.set x s) =
      if n ∈ fl.readers then f (fl.set x s) else fl.set (if n ∈ fl.writers then fl.get (f s) else x) (f s) := by
  cases h with
  | asl o | lsr o | rol o | ror o => cases o <;> cases fl <;> rfl
  | _ => cases fl <;> rfl

/-! ## The loop's state, the parameters, the log -/

/-- LoopState and PauseReq are neither read nor written (R251). -/
theorem Meaning.set_loop (h : Meaning n f k o) (l : LoopState) (p : Bool) (s : State) :
    f { s with loopState := l, pauseReq := p } = { f s with loopState := l, pauseReq := p } := by
  cases h with
  | asl o | lsr o | rol o | ror o => cases o <;> rfl
  | _ => rfl

/-- What no instruction writes (R7, R251). -/
theorem Meaning.keeps_loop_params (h : Meaning n f k o) (s : State) :
    (f s).loopState = s.loopState ∧ (f s).pauseReq = s.pauseReq ∧ (f s).params = s.params := by
  cases h with
  | asl o | lsr o | rol o | ror o => cases o <;> exact ⟨rfl, rfl, rfl⟩
  | _ => exact ⟨rfl, rfl, rfl⟩

/-- Only an undefined byte is logged (R40). -/
theorem Meaning.diagLog (h : Meaning n f k o) (hn : n ≠ .undefined) (s : State) : (f s).diagLog = s.diagLog := by
  cases h with
  | asl o | lsr o | rol o | ror o => cases o <;> rfl
  | undefined => exact absurd rfl hn
  | _ => rfl

/-! ## Registers -/

/-- X, Y and SP change only by their writers (R24, R26), said as for flags. -/
theorem Meaning.x_y_sp (h : Meaning n f k o) (s : State) :
    ((f s).x = if n ∈ writersX then (f s).x else s.x) ∧ ((f s).y = if n ∈ writersY then (f s).y else s.y) ∧
      (f s).sp = if n ∈ writersSP then (f s).sp else s.sp := by
  cases h with
  | asl o | lsr o | rol o | ror o => cases o <;> exact ⟨rfl, rfl, rfl⟩
  | _ => exact ⟨rfl, rfl, rfl⟩

/-- A changes only by the mnemonics listed, and by a shift or rotate of A itself (R24). -/
theorem Meaning.a (h : Meaning n f k o) (s : State) :
    (f s).a = s.a ∨ n ∈ [.lda, .txa, .tya, .pla, .adc, .sbc, .and, .ora, .eor] ∨ k = .accumulator := by
  cases h with
  | lda | txa | tya | pla | adc | sbc | and | ora | eor => exact .inr (.inl (by decide))
  | asl o | lsr o | rol o | ror o =>
    cases o with
    | accumulator => exact .inr (.inr rfl)
    | memory m => exact .inl rfl
  | _ => exact .inl rfl

/-! ## The program counter -/

theorem Machine.MemOperand.length_eq (m : MemOperand) : m.length = BitVec.ofNat 16 m.mode.length := by
  cases m <;> rfl

theorem Machine.Source.length_eq (o : Source) : o.length = BitVec.ofNat 16 o.mode.length := by
  cases o with
  | immediate => rfl
  | memory m => exact m.length_eq

/-- Only a control transfer leaves PC elsewhere than past the bytes its mode takes (R25). -/
theorem Meaning.pc (h : Meaning n f k o) (hn : n ∉ controlTransfers) (s : State) :
    (f s).pc = s.pc + BitVec.ofNat 16 k.length := by
  cases h with
  | lda o | ldx o | ldy o | adc o | sbc o | and o | ora o | eor o | cmp o | cpx o | cpy o =>
    exact congrArg (s.pc + ·) o.length_eq
  | sta m | stx m | sty m | bit m | inc m | dec m => exact congrArg (s.pc + ·) m.length_eq
  | asl o | lsr o | rol o | ror o =>
    cases o with
    | accumulator => rfl
    | memory m => exact congrArg (s.pc + ·) m.length_eq
  | bcc | bcs | beq | bne | bmi | bpl | bvc | bvs | jmpAbsolute | jmpIndirect | jsr | rts | rti =>
    exact absurd (by decide) hn
  | _ => rfl

end

/-! ## Memory -/

/-- The bytes written one after the other. -/
def Machine.Memory.writeAll (m : Memory) (cells : List (Addr × Byte)) : Memory :=
  cells.foldl (fun m cell => m.write cell.1 cell.2) m

theorem Machine.Memory.wf_writeAll {m : Memory} (h : m.wf = true) (cells : List (Addr × Byte)) :
    (m.writeAll cells).wf = true := by
  induction cells generalizing m with
  | nil => exact h
  | cons cell cells ih => exact ih (Memory.wf_write h cell.1 cell.2)

/-- Outside the addresses written, a byte reads as before. -/
theorem Machine.Memory.read_writeAll_of_not_mem (m : Memory) {cells : List (Addr × Byte)} {addr : Addr}
    (h : addr ∉ cells.map Prod.fst) : (m.writeAll cells).read addr = m.read addr := by
  induction cells generalizing m with
  | nil => rfl
  | cons cell cells ih =>
    obtain ⟨hne, hrest⟩ := not_or.mp (List.mem_cons.not.mp h)
    exact (ih (m.write cell.1 cell.2) hrest).trans (Memory.read_write_ne hne m cell.2)

/-- A shift or rotate of memory writes its result to the address it read. -/
theorem shiftTo_memory_mem (s : State) (m : MemOperand) (carry : Bool) (r : Byte) :
    (s.shiftTo (.memory m) carry r).mem = s.mem.write (effectiveAddress s m) r :=
  congrArg (s.mem.write · r) (effectiveAddress_congr (s := s) rfl rfl rfl m)

/-- All that an instruction does to memory: it writes a byte to each of its stored addresses, in order (R37). -/
theorem exec_mem {i : Instr} {s t : State} (h : exec i s = .next t) :
    ∃ cells : List (Addr × Byte), cells.map Prod.fst = i.storedAddresses s ∧ t.mem = s.mem.writeAll cells := by
  obtain ⟨f, hf, -, rfl⟩ := meaning_of_exec h
  clear h
  unfold Instr.storedAddresses
  generalize i.mnemonic = n, i.mode = k, i.memOperand = o at hf ⊢
  cases hf with
  | sta m => exact ⟨[(_, s.a)], rfl, congrArg State.mem (semSta_eq_stored s m)⟩
  | stx m => exact ⟨[(_, s.x)], rfl, congrArg State.mem (semStx_eq_stored s m)⟩
  | sty m => exact ⟨[(_, s.y)], rfl, congrArg State.mem (semSty_eq_stored s m)⟩
  | inc m => exact ⟨[(_, _)], rfl, congrArg State.mem (semInc_eq_modified s m)⟩
  | dec m => exact ⟨[(_, _)], rfl, congrArg State.mem (semDec_eq_modified s m)⟩
  | asl o | lsr o | rol o | ror o =>
    cases o with
    | accumulator => exact ⟨[], rfl, rfl⟩
    | memory m => exact ⟨[(_, _)], rfl, shiftTo_memory_mem s m _ _⟩
  | pha | php => exact ⟨[(_, _)], rfl, rfl⟩
  | jsr w => exact ⟨[(_, _), (_, _)], rfl, rfl⟩
  | _ => exact ⟨[], rfl, rfl⟩

/-! ## The obligations -/

/-- Settles O49: memory outside the addresses written reads as before, and they are the stored addresses. -/
theorem memoryChangesOnlyWhereStored : Obligations.MemoryChangesOnlyWhereStored := by
  unfold Obligations.MemoryChangesOnlyWhereStored
  intro i s t h addr haddr
  obtain ⟨cells, hcells, hmem⟩ := exec_mem h
  rw [hmem]
  exact s.mem.read_writeAll_of_not_mem (hcells ▸ haddr)

/-- Settles O50: the mnemonic and the operand leave one meaning, a single write of the register. -/
theorem storedByteReadsBack : Obligations.StoredByteReadsBack := by
  unfold Obligations.StoredByteReadsBack
  intro i s t m hwf h
  refine ⟨fun hn ho => ?_, fun hn ho => ?_, fun hn ho => ?_, fun hi => ?_⟩
  case refine_4 =>
    subst hi
    obtain rfl : s.semPha = t := Host.Outcome.next.inj h
    exact Memory.read_write_same hwf _ _
  all_goals
    obtain ⟨f, hf, -, rfl⟩ := meaning_of_exec h
    rw [hn, ho] at hf
    generalize i.mode = k at hf
    cases hf
  · simp only [semSta_eq_stored]
    exact Memory.read_write_same hwf _ _
  · simp only [semStx_eq_stored]
    exact Memory.read_write_same hwf _ _
  · simp only [semSty_eq_stored]
    exact Memory.read_write_same hwf _ _

/-- Settles O51, register by register. -/
theorem registersChangeOnlyByWriters : Obligations.RegistersChangeOnlyByWriters := by
  unfold Obligations.RegistersChangeOnlyByWriters
  intro i s t h
  obtain ⟨f, hf, -, rfl⟩ := meaning_of_exec h
  obtain ⟨hx, hy, hsp⟩ := hf.x_y_sp s
  obtain ⟨hloop, hpause, -⟩ := hf.keeps_loop_params s
  refine ⟨fun hw => (hf.a s).resolve_right ?_, fun hn => hx.trans (if_neg hn), fun hn => hy.trans (if_neg hn),
    fun hn => hsp.trans (if_neg hn), hloop, hpause, fun hn => hf.diagLog hn s⟩
  simpa only [Instr.writesA, Bool.or_eq_false_iff, List.contains_eq_mem, decide_eq_false_iff_not, beq_eq_false_iff_ne,
    not_or] using hw

/-- A flag changes only by its writers. -/
theorem exec_flag {i : Instr} {s t : State} (h : exec i s = .next t) (fl : Flag) (hn : i.mnemonic ∉ fl.writers) :
    fl.get t = fl.get s := by
  obtain ⟨f, hf, -, rfl⟩ := meaning_of_exec h
  exact (hf.get_flag fl s).trans (if_neg hn)

/-- Settles O52, flag by flag. -/
theorem flagsChangeOnlyByWriters : Obligations.FlagsChangeOnlyByWriters := by
  unfold Obligations.FlagsChangeOnlyByWriters
  intro i s t h
  exact ⟨fun hn => ⟨exec_flag h .n hn, exec_flag h .z hn⟩, exec_flag h .v, exec_flag h .b, exec_flag h .d,
    exec_flag h .i, exec_flag h .c⟩

/-- To an instruction that does not read the flag, it matters only as far as it stays. -/
theorem exec_set_flag {i : Instr} {s t : State} (h : exec i s = .next t) (fl : Flag) (x : Bool)
    (hn : i.mnemonic ∉ fl.readers) :
    exec i (fl.set x s) = .next (fl.set (if i.mnemonic ∈ fl.writers then fl.get t else x) t) := by
  obtain ⟨f, hf, hexec, rfl⟩ := meaning_of_exec h
  rw [hexec, (hf.set_flag fl x s).trans (if_neg hn)]

/-- Settles O53, flag by flag. -/
theorem flagsMatterOnlyToReaders : Obligations.FlagsMatterOnlyToReaders := by
  unfold Obligations.FlagsMatterOnlyToReaders
  intro i s t f h
  exact ⟨exec_set_flag h .n f, exec_set_flag h .v f, exec_set_flag h .z f, exec_set_flag h .c f⟩

/-- Settles O54: PHP is the one reader of each of the three. -/
theorem decimalAndInterruptAreStoredOnly : Obligations.DecimalAndInterruptAreStoredOnly := by
  unfold Obligations.DecimalAndInterruptAreStoredOnly
  intro i s t f h hphp
  have hn : i.mnemonic ∉ [.php] := List.mem_singleton.not.mpr hphp
  exact ⟨exec_set_flag h .d f hn, exec_set_flag h .i f hn, exec_set_flag h .b f hn⟩

/-- Settles O55, by the same of every meaning. -/
theorem loopStateInvisibleToInstructions : Obligations.LoopStateInvisibleToInstructions := by
  unfold Obligations.LoopStateInvisibleToInstructions
  intro i s t l p h
  obtain ⟨f, hf, hexec, rfl⟩ := meaning_of_exec h
  rw [hexec, hf.set_loop]

/-- Settles O56: the mode gives the length of the encoding. -/
theorem pcMovesPastTheInstruction : Obligations.PcMovesPastTheInstruction := by
  unfold Obligations.PcMovesPastTheInstruction
  intro i s t h hn
  obtain ⟨f, hf, -, rfl⟩ := meaning_of_exec h
  rw [length_encode]
  exact hf.pc hn s

/-- PHA, PHP and JSR store to stack slots alone (R66). -/
theorem storedAddresses_of_push {i : Instr} (hi : i.mnemonic ∈ [.pha, .php, .jsr]) {s : State} {addr : Addr}
    (h : addr ∈ i.storedAddresses s) : ∃ p, addr = stackAddr p := by
  simp only [List.mem_cons, List.not_mem_nil, or_false] at hi
  obtain hn | hn | hn := hi <;> simp only [Instr.storedAddresses, hn, List.mem_cons, List.not_mem_nil, or_false] at h
  · exact ⟨_, h⟩
  · exact ⟨_, h⟩
  · exact h.elim (⟨_, ·⟩) (⟨_, ·⟩)

/-- Settles O57: a byte that changed stands at a stored address, which is a stack slot. -/
theorem stackStaysInPageOne : Obligations.StackStaysInPageOne := by
  unfold Obligations.StackStaysInPageOne
  intro i s hi
  obtain ⟨f, -, hexec⟩ := exec_meaning i
  refine ⟨f s, hexec s, fun addr hchanged => ?_⟩
  have hstored : addr ∈ i.storedAddresses s := by
    by_contra hout
    exact hchanged (memoryChangesOnlyWhereStored i s _ (hexec s) addr hout)
  obtain ⟨p, rfl⟩ := storedAddresses_of_push hi hstored
  exact stackAddr_in_page_one p

end Sys2Proof
end

section
/-! The execution loop and the host's requests (48_dispatch_loop.md R255 to R268): every step, request and batch has an
answer, what each answers, and the invariant that all of them keep. -/

namespace Sys2Proof

open Machine Rules

/-! ## Everything has an answer (R76, R280) -/

theorem exec_answers (i : Instr) (s : State) : ∃ t, exec i s = .next t := by
  obtain ⟨f, -, hexec⟩ := exec_meaning i
  exact ⟨f s, hexec s⟩

theorem boundary_answers (s : State) : ∃ t, boundary s = .next t := by
  unfold boundary
  split
  · exact ⟨_, rfl⟩
  · split
    · exact ⟨_, rfl⟩
    · exact exec_answers s.fetch s

theorem step_answers (s : State) : ∃ t, step s = .next t := by
  by_cases hl : s.loopState = .running
  · obtain ⟨t, ht⟩ := boundary_answers s
    exact ⟨t, by rw [step, loopStep, hl]; exact ht⟩
  · exact ⟨s, step_of_not_running hl⟩

/-- A batch goes on from what the boundary step answers (R259). -/
theorem runBatch_succ_of_boundary {s t : State} (hl : s.loopState = .running) (h : boundary s = .next t) (k : Nat) :
    runBatch (k + 1) s = runBatch k t := by
  simp only [runBatch, hl, h]

/-- Outside Running a batch of any size does nothing (R259). -/
theorem runBatch_of_not_running {s : State} (hl : s.loopState ≠ .running) (k : Nat) : runBatch k s = .next s := by
  cases k with
  | zero => rfl
  | succ k =>
    unfold runBatch
    cases hs : s.loopState with
    | running => exact absurd hs hl
    | idle | paused | halted => rfl

theorem runBatch_answers (k : Nat) (s : State) : ∃ t, runBatch k s = .next t := by
  induction k generalizing s with
  | zero => exact ⟨s, rfl⟩
  | succ k ih =>
    by_cases hl : s.loopState = .running
    · obtain ⟨u, hu⟩ := boundary_answers s
      rw [runBatch_succ_of_boundary hl hu]
      exact ih u
    · exact ⟨s, runBatch_of_not_running hl _⟩

/-- Settles O10: `exec` answers by its meanings, and the loop answers what `exec` does. -/
theorem nothingEverFaults : Obligations.NothingEverFaults := by
  unfold Obligations.NothingEverFaults
  exact ⟨exec_answers, step_answers, runBatch_answers⟩

/-- Settles O21, by induction on the size of the first batch; a loop that has stopped stays as it is. -/
theorem batchSizeIsInvisible : Obligations.BatchSizeIsInvisible := by
  unfold Obligations.BatchSizeIsInvisible
  intro m k s t h
  induction m generalizing s with
  | zero =>
    obtain rfl : s = t := Host.Outcome.next.inj h
    rw [Nat.zero_add]
  | succ m ih =>
    by_cases hl : s.loopState = .running
    · obtain ⟨u, hu⟩ := boundary_answers s
      rw [runBatch_succ_of_boundary hl hu] at h
      rw [Nat.succ_add, runBatch_succ_of_boundary hl hu, ih u h]
    · rw [runBatch_of_not_running hl] at h
      obtain rfl : s = t := Host.Outcome.next.inj h
      rw [runBatch_of_not_running hl, runBatch_of_not_running hl]

/-! ## The boundary check and the requests that steer the loop -/

/-- Settles O8, in the order of `boundary`. -/
theorem boundaryChecksHaltThenPause : Obligations.BoundaryChecksHaltThenPause := by
  unfold Obligations.BoundaryChecksHaltThenPause
  intro s hl
  refine ⟨fun hb => ?_, fun hb hp => ?_⟩
  · simp only [step, loopStep, boundary, hl, hb, if_true]
  · simp [step, loopStep, boundary, hl, hb, hp]

/-- Settles O16, by the test of `hostRun`. -/
theorem runClearsStopAndPause : Obligations.RunClearsStopAndPause := by
  unfold Obligations.RunClearsStopAndPause
  exact fun s => ⟨fun hl => if_pos hl, fun hl => if_neg hl⟩

/-- Settles O17: `step()` is `execOne`, which has an answer, with Paused in place of the loop's state. -/
theorem hostStepExecutesOne : Obligations.HostStepExecutesOne := by
  unfold Obligations.HostStepExecutesOne
  refine fun s => ⟨fun hl => if_pos hl, fun hl => ?_⟩
  obtain ⟨t, ht⟩ := exec_answers s.fetch s
  exact ⟨t, ht, by simp only [host, hostStep, hl, if_false, execOne, ht]⟩

/-- Settles O18, by the state of the loop. -/
theorem stopPauseInspect : Obligations.StopPauseInspect := by
  unfold Obligations.StopPauseInspect
  intro s
  simp only [host, hostStop, hostPause]
  cases s.loopState <;> simp

/-! ## The parameters -/

theorem exec_params {i : Instr} {s t : State} (h : exec i s = .next t) : t.params = s.params := by
  obtain ⟨f, hf, -, rfl⟩ := meaning_of_exec h
  obtain ⟨-, -, hparams⟩ := hf.keeps_loop_params s
  exact hparams

theorem step_params {s t : State} (h : step s = .next t) : t.params = s.params := by
  obtain ⟨-, rfl⟩ | ⟨-, -, rfl⟩ | ⟨-, -, -, rfl⟩ | ⟨-, -, -, hexec⟩ := step_cases h
  case inr.inr.inr => exact exec_params hexec
  all_goals rfl

theorem host_params {r : HostRequest} {s t : State} (h : host r s = .next t) : t.params = s.params := by
  obtain ⟨-, rfl⟩ | ⟨bytes, load, -, -, -, rfl⟩ | ⟨-, -, rfl⟩ | ⟨-, -, u, hexec, rfl⟩ | ⟨-, -, rfl⟩ | ⟨-, -, rfl⟩ |
    ⟨-, -, rfl⟩ | ⟨-, -, rfl⟩ | ⟨-, rfl⟩ := host_cases h
  case inr.inr.inr.inl => exact (exec_params hexec : u.params = s.params)
  all_goals rfl

/-- Settles O58: an event is a step or a request. -/
theorem parametersNeverChange : Obligations.ParametersNeverChange := by
  unfold Obligations.ParametersNeverChange
  intro e s t h
  obtain ⟨-, hstep⟩ | ⟨r, -, hhost⟩ := react_cases h
  · exact step_params hstep
  · exact host_params hhost

/-! ## The invariant -/

/-- What the machine fetches is well formed, whatever the bytes: a window always decodes. -/
theorem fetch_wellFormed (s : State) : s.fetch.wellFormed = true := by
  obtain ⟨left, hdecode⟩ := decode_window (s.mem.read s.pc) (s.mem.read (s.pc + 1#16)) (s.mem.read (s.pc + 2#16)) []
  exact (encodeDecodeAgree _ _ _ hdecode).1

/-- A well-formed instruction logs undefined bytes alone (R40, R95). -/
theorem exec_diag_undefined {i : Instr} {s t : State} (hwf : i.wellFormed = true) (h : exec i s = .next t)
    (hs : ∀ e ∈ s.diagLog, isUndefinedByte e.op = true) : ∀ e ∈ t.diagLog, isUndefinedByte e.op = true := by
  by_cases hn : i.mnemonic = .undefined
  · obtain ⟨op, rfl⟩ := eq_undefined_of_mnemonic hn
    obtain rfl : (s.advance 1#16).diagnose s.pc op = t := Host.Outcome.next.inj h
    simp only [State.diagnose_diagLog, State.advance_diagLog, List.forall_mem_append, List.forall_mem_singleton]
    exact ⟨hs, hwf⟩
  · obtain ⟨f, hf, -, rfl⟩ := meaning_of_exec h
    rwa [hf.diagLog hn]

/-- While the loop is Running or Paused the invariant asks about memory and the log alone. -/
theorem inv_of_running_or_paused {s : State} (hl : s.loopState = .running ∨ s.loopState = .paused)
    (hmem : s.mem.wf = true) (hdiag : ∀ e ∈ s.diagLog, isUndefinedByte e.op = true) : s.Inv where
  memCanonical := hmem
  diagUndefined := hdiag
  haltedBreak h := by simp [h] at hl
  idleQuiet h := by simp [h] at hl

/-- Executing what was fetched keeps what the invariant says of memory and the log. -/
theorem exec_fetch_keeps {s t : State} (hs : s.Inv) (h : exec s.fetch s = .next t) :
    t.mem.wf = true ∧ ∀ e ∈ t.diagLog, isUndefinedByte e.op = true := by
  obtain ⟨cells, -, hmem⟩ := exec_mem h
  exact ⟨hmem ▸ Memory.wf_writeAll hs.memCanonical cells,
    exec_diag_undefined (fetch_wellFormed s) h hs.diagUndefined⟩

/-- Settles O11, by what a step can do. -/
theorem stepKeepsInvariant : Obligations.StepKeepsInvariant := by
  unfold Obligations.StepKeepsInvariant
  intro s t hs h
  obtain ⟨-, rfl⟩ | ⟨-, hb, rfl⟩ | ⟨-, -, -, rfl⟩ | ⟨hl, -, -, hexec⟩ := step_cases h
  case inl => exact hs
  case inr.inl => exact ⟨hs.memCanonical, hs.diagUndefined, fun _ => hb, nofun⟩
  case inr.inr.inl => exact inv_of_running_or_paused (.inr rfl) hs.memCanonical hs.diagUndefined
  case inr.inr.inr =>
    obtain ⟨hmem, hdiag⟩ := exec_fetch_keeps hs hexec
    obtain ⟨f, hf, -, rfl⟩ := meaning_of_exec hexec
    obtain ⟨hloop, -, -⟩ := hf.keeps_loop_params s
    exact inv_of_running_or_paused (.inl (hloop.trans hl)) hmem hdiag

/-- Settles O12: memory and the log are empty, and nothing is pending. -/
theorem resetMeetsInvariant : Obligations.ResetMeetsInvariant := by
  unfold Obligations.ResetMeetsInvariant
  exact ⟨Memory.wf_nil, nofun, nofun, fun _ => ⟨rfl, rfl⟩⟩

/-- Settles O13, by what an accepted request can do. -/
theorem hostRequestsKeepInvariant : Obligations.HostRequestsKeepInvariant := by
  unfold Obligations.HostRequestsKeepInvariant
  intro r s t hs h
  obtain ⟨-, rfl⟩ | ⟨bytes, load, -, -, -, rfl⟩ | ⟨-, -, rfl⟩ | ⟨-, -, u, hexec, rfl⟩ | ⟨-, hl, rfl⟩ | ⟨-, -, rfl⟩ |
    ⟨-, hl, rfl⟩ | ⟨-, -, rfl⟩ | ⟨-, rfl⟩ := host_cases h
  · exact ⟨Memory.wf_nil, nofun, nofun, fun _ => ⟨rfl, rfl⟩⟩
  · exact ⟨Memory.wf_writeBytes hs.memCanonical _ _, hs.diagUndefined, hs.haltedBreak, hs.idleQuiet⟩
  · exact inv_of_running_or_paused (.inl rfl) hs.memCanonical hs.diagUndefined
  · obtain ⟨hmem, hdiag⟩ := exec_fetch_keeps hs hexec
    exact inv_of_running_or_paused (.inr rfl) hmem hdiag
  · exact inv_of_running_or_paused (.inl hl) hs.memCanonical hs.diagUndefined
  · exact ⟨hs.memCanonical, hs.diagUndefined, fun _ => rfl, nofun⟩
  · exact inv_of_running_or_paused (.inl hl) hs.memCanonical hs.diagUndefined
  · exact hs
  · exact hs

/-- An event leaves what it answers, or the state as it was when it is refused (R13). -/
theorem settle_cases (e : Event) (s : State) : react e s = .next (settle e s) ∨ settle e s = s := by
  unfold settle
  cases h : react e s with
  | next t => exact .inl rfl
  | fault r => exact .inr rfl
  | refused r => exact .inr rfl

/-- One event keeps the invariant and the parameters. -/
theorem settle_keeps {s : State} (hs : s.Inv) (e : Event) : (settle e s).Inv ∧ (settle e s).params = s.params := by
  obtain h | h := settle_cases e s
  · refine ⟨?_, parametersNeverChange e s _ h⟩
    obtain ⟨-, hstep⟩ | ⟨r, -, hhost⟩ := react_cases h
    · exact stepKeepsInvariant s _ hs hstep
    · exact hostRequestsKeepInvariant r s _ hs hhost
  · rw [h]
    exact ⟨hs, rfl⟩

/-- Settles O14, by induction on the events. -/
theorem everyRunKeepsInvariant : Obligations.EveryRunKeepsInvariant := by
  unfold Obligations.EveryRunKeepsInvariant
  intro es
  induction es with
  | nil => exact fun s hs => ⟨hs, rfl⟩
  | cons e es ih =>
    intro s hs
    obtain ⟨hinv, hparams⟩ := settle_keeps hs e
    obtain ⟨hinv', hparams'⟩ := ih (settle e s) hinv
    exact ⟨hinv', hparams'.trans hparams⟩

end Sys2Proof
end

section
/-! Burning bytes, the standard launch, and a program that breaks (48_dispatch_loop.md R257, R258, R266, R268). -/

namespace Sys2Proof

open Machine Rules

/-! ## A run of bytes in memory -/

/-- The byte after the one at `load`. -/
theorem ofNat_add_one_addr (load : Nat) : BitVec.ofNat 16 load + 1#16 = BitVec.ofNat 16 (load + 1) :=
  (BitVec.ofNat_add load 1).symm

/-- Outside the bytes written, memory reads as before (R64, R266). -/
theorem Machine.Memory.read_writeBytes_outside (m : Memory) {load : Nat} {bytes : List Byte}
    (hfit : load + bytes.length ≤ 65536) {addr : Addr}
    (hout : addr.toNat < load ∨ load + bytes.length ≤ addr.toNat) :
    (m.writeBytes (BitVec.ofNat 16 load) bytes).read addr = m.read addr := by
  induction bytes generalizing m load with
  | nil => rfl
  | cons b bytes ih =>
    simp only [List.length_cons] at hfit hout
    have hne : addr ≠ BitVec.ofNat 16 load := by
      rintro rfl
      simp only [BitVec.toNat_ofNat] at hout
      omega
    rw [Memory.writeBytes, ofNat_add_one_addr, ih _ (by omega) (by omega), Memory.read_write_ne hne]

/-- Each byte written reads back at its address (R266). -/
theorem Machine.Memory.read_writeBytes_getElem {m : Memory} (hwf : m.wf = true) {load : Nat} {bytes : List Byte}
    (hfit : load + bytes.length ≤ 65536) {k : Nat} (hk : k < bytes.length) :
    (m.writeBytes (BitVec.ofNat 16 load) bytes).read (BitVec.ofNat 16 (load + k)) = bytes[k] := by
  induction bytes generalizing m load k with
  | nil => cases hk
  | cons b bytes ih =>
    simp only [List.length_cons] at hfit hk
    rw [Memory.writeBytes, ofNat_add_one_addr]
    cases k with
    | zero =>
      have hload : (BitVec.ofNat 16 load).toNat < load + 1 := by
        rw [BitVec.toNat_ofNat]
        omega
      exact (Memory.read_writeBytes_outside _ (by omega) (.inl hload)).trans (Memory.read_write_same hwf _ b)
    | succ k =>
      rw [show load + (k + 1) = load + 1 + k by omega]
      exact ih (Memory.wf_write hwf _ b) (by omega) (by omega)

/-- Settles O19: the two refusals in the order of `hostBurn`, and what the bytes leave in memory. -/
theorem burnCopiesItsBytes : Obligations.BurnCopiesItsBytes := by
  unfold Obligations.BurnCopiesItsBytes
  intro s bytes load
  refine ⟨fun hl => if_pos hl, fun hl hbig => (if_neg hl).trans (if_pos hbig), fun hwf hl hfit => ?_⟩
  exact ⟨_, (if_neg hl).trans (if_neg (Nat.not_lt.mpr hfit)), rfl,
    fun k hk => Memory.read_writeBytes_getElem hwf hfit hk,
    fun addr hout => Memory.read_writeBytes_outside s.mem hfit hout⟩

/-! ## The standard launch -/

/-- What the three requests of the launch leave, when the object fits into memory (R268). -/
theorem standardLaunch_eq (s : State) {object : List Byte} (hfit : object.length ≤ 65536) :
    standardLaunch object s =
      { State.reset with
        loopState := .running, params := s.params, mem := Memory.writeBytes [] (BitVec.ofNat 16 0) object } := by
  have hburn : hostBurn object 0 { State.reset with params := s.params } =
      .next { State.reset with params := s.params, mem := Memory.writeBytes [] (BitVec.ofNat 16 0) object } :=
    (if_neg nofun).trans (if_neg (by omega))
  simp only [standardLaunch, runEvents, settle, react, host, hostReset, hburn]
  rfl

/-- Settles O20: the object is burned into the empty memory that reset leaves. -/
theorem standardLaunchStartsProgram : Obligations.StandardLaunchStartsProgram := by
  unfold Obligations.StandardLaunchStartsProgram
  intro s object hfit
  have hfit0 : 0 + object.length ≤ 65536 := by rwa [Nat.zero_add]
  rw [standardLaunch_eq s hfit]
  refine ⟨rfl, fun k hk => ?_, fun addr hout => ?_⟩
  · have hread := Memory.read_writeBytes_getElem Memory.wf_nil hfit0 hk
    rwa [Nat.zero_add] at hread
  · exact Memory.read_writeBytes_outside [] hfit0 (.inr (by rwa [Nat.zero_add]))

/-! ## A program that breaks -/

/-- A $00 at PC is BRK, whatever follows (R94, R224). -/
theorem fetch_of_read_zero {s : State} (h : s.mem.read s.pc = 0x00#8) : s.fetch = .brk := by
  rw [State.fetch, h]
  rfl

/-- An event that has an answer leaves it. -/
theorem settle_of_react {e : Event} {s t : State} (h : react e s = .next t) : settle e s = t := by
  rw [settle, h]

/-- In the running loop with B set, the next step halts (R258). -/
theorem settle_loop_of_break {s : State} (hl : s.loopState = .running) (hb : s.b = true) :
    settle .loop s = { s with loopState := .halted } :=
  settle_of_react ((boundaryChecksHaltThenPause s hl).1 hb)

/-- Outside Running, `run()` clears B and PauseReq and starts the loop (R257). -/
theorem settle_run_of_not_running {s : State} (hl : s.loopState ≠ .running) :
    settle (.host .run) s = { s with pauseReq := false, b := false, loopState := .running } :=
  settle_of_react ((runClearsStopAndPause s).2 hl)

/-- Settles O22: the first step executes the BRK, the second halts, and `run()` clears what both set. -/
theorem breakHaltsAndRunResumes : Obligations.BreakHaltsAndRunResumes := by
  unfold Obligations.BreakHaltsAndRunResumes
  intro s hl hb hp hread
  have hbrk : settle .loop s = { s with pc := s.pc + 1#16, b := true } := by
    refine settle_of_react ((step_running hl hb hp).trans ?_)
    rw [fetch_of_read_zero hread]
    rfl
  have hhalt : settle .loop { s with pc := s.pc + 1#16, b := true } =
      { s with pc := s.pc + 1#16, b := true, loopState := .halted } := settle_loop_of_break hl rfl
  have hrun : settle (.host .run) { s with pc := s.pc + 1#16, b := true, loopState := .halted } =
      { s with pc := s.pc + 1#16 } :=
    (settle_run_of_not_running (by simp)).trans (by simp only [hl, hb, hp])
  simp only [runEvents, hbrk, hhalt, hrun, and_self]

end Sys2Proof
end

section
/-! Rotates, indirect jumps, subroutines and returns, BRK, the status on the stack, undefined bytes: each a single
result state, put together as the forms of the other mnemonics are (43_shift_rotate.md, 44_control_transfer.md,
45_stack_flag_misc.md, 48_dispatch_loop.md R253). -/

namespace Sys2Proof

open Machine Rules

/-! ## ROL and ROR -/

/-- A flag at bit `k` of a byte, as the model and as the obligations write it. -/
theorem flagAt_eq_flagBit (f : Bool) (k : Nat) : flagAt f k = flagBit f k := by
  cases f with
  | false => exact BitVec.zero_shiftLeft k
  | true => rfl

theorem semRol_eq_shiftedA (s : State) : s.semRol .accumulator = shiftedA rol s := by
  rw [State.semRol, flagAt_eq_flagBit]
  exact shiftTo_accumulator_eq_shiftedA rol s

theorem semRol_eq_shiftedMem (s : State) (m : MemOperand) :
    s.semRol (.memory m) = shiftedMem rol s m.length (effectiveAddress s m) := by
  rw [State.semRol, flagAt_eq_flagBit]
  exact shiftTo_memory_eq_shiftedMem rol s m

theorem semRor_eq_shiftedA (s : State) : s.semRor .accumulator = shiftedA ror s := by
  rw [State.semRor, flagAt_eq_flagBit]
  exact shiftTo_accumulator_eq_shiftedA ror s

theorem semRor_eq_shiftedMem (s : State) (m : MemOperand) :
    s.semRor (.memory m) = shiftedMem ror s m.length (effectiveAddress s m) := by
  rw [State.semRor, flagAt_eq_flagBit]
  exact shiftTo_memory_eq_shiftedMem ror s m

/-- Settles O35: the Accumulator form and the four memory forms of each mnemonic, from its two result states. -/
theorem rotatesMoveThroughCarry : Obligations.RotatesMoveThroughCarry := by
  unfold Obligations.RotatesMoveThroughCarry
  intro s
  exact ⟨does_op0 rfl rfl (semRol_eq_shiftedA s),
    fourPlaces_of_sem (semRol_eq_shiftedMem s) rfl (fun _ _ => rfl),
    does_op0 rfl rfl (semRor_eq_shiftedA s),
    fourPlaces_of_sem (semRor_eq_shiftedMem s) rfl (fun _ _ => rfl)⟩

/-! ## Control transfer -/

/-- JMP indirect goes where the parameter says (R130, R220). -/
theorem does_jmpIndirect {s : State} {w target : Addr} (h : indirectTarget s w = target) :
    Does (bytes3 0x6C#8 w) (.jmpIndirect w) s { s with pc := target } :=
  does_op2 rfl rfl (congrArg (fun pc => { s with pc := pc }) h)

/-- Settles O39, by the target of each reading. -/
theorem jmpIndirectByReading : Obligations.JmpIndirectByReading := by
  unfold Obligations.JmpIndirectByReading
  intro s w
  refine ⟨fun h => does_jmpIndirect ?_, fun h => does_jmpIndirect ?_, fun h => does_jmpIndirect ?_⟩
  · rw [indirectTarget, h]
    rfl
  · rw [indirectTarget, h]
  · rw [indirectTarget, h]
    rfl

/-- JSR pushes at SP and at the slot below, modulo 256 (R68, R221). -/
theorem semJsr_eq (s : State) (w : Addr) :
    s.semJsr w =
      { s with
        mem := (s.mem.write (slot s 0#8) (hiByte (s.pc + 2#16))).write (slot s 0xFF#8) (loByte (s.pc + 2#16))
        sp := s.sp - 2#8, pc := w } := by
  have hret : (s.advance 3#16).pc - 1#16 = s.pc + 2#16 := by
    rw [State.advance_pc]
    bv_omega
  have hsp : s.sp - 1#8 - 1#8 = s.sp - 2#8 := by bv_omega
  have hslot : stackAddr (s.sp - 1#8) = slot s 0xFF#8 := by
    rw [slot_eq_stackAddr]
    exact congrArg stackAddr (by bv_omega)
  simp only [State.semJsr, hret, State.push, hsp, hslot, slot_zero]

/-- Settles O40, from the result state of JSR. -/
theorem jsrPushesReturnAddress : Obligations.JsrPushesReturnAddress := by
  unfold Obligations.JsrPushesReturnAddress
  exact fun s w => does_op2 rfl rfl (semJsr_eq s w)

/-- RTS pulls the two slots above SP (R222). -/
theorem semRts_eq (s : State) :
    s.semRts =
      { s with sp := s.sp + 2#8, pc := wordOf (s.mem.read (slot s 1#8)) (s.mem.read (slot s 2#8)) + 1#16 } := by
  have hsp : s.sp + 1#8 + 1#8 = s.sp + 2#8 := by bv_omega
  simp only [State.semRts, State.pullByte, State.pulled, hsp]
  rfl

/-- RTI pulls the three slots above SP, and unpacking the status moves neither SP nor memory (R223). -/
theorem semRti_eq (s : State) :
    s.semRti =
      { unpacked s (s.mem.read (slot s 1#8)) with
        sp := s.sp + 3#8, pc := wordOf (s.mem.read (slot s 2#8)) (s.mem.read (slot s 3#8)) } := by
  have hsp2 : s.sp + 1#8 + 1#8 = s.sp + 2#8 := by bv_omega
  have hsp3 : s.sp + 2#8 + 1#8 = s.sp + 3#8 := by bv_omega
  simp only [State.semRti, State.pullByte, State.pulled, State.unpackP, hsp2, hsp3]
  rfl

/-- Settles O41, from the result states of the two returns. -/
theorem returnsPullTheirFrames : Obligations.ReturnsPullTheirFrames := by
  unfold Obligations.ReturnsPullTheirFrames
  exact fun s => ⟨does_op0 rfl rfl (semRts_eq s), does_op0 rfl rfl (semRti_eq s)⟩

/-- The two slots a JSR writes are different ones, since SP wraps modulo 256 (R68). -/
theorem slot_zero_ne_slot_below (s : State) : slot s 0#8 ≠ slot s 0xFF#8 := by
  intro h
  have hsp : s.sp + 0#8 = s.sp + 0xFF#8 := stackAddr_injective h
  bv_omega

/-- The two bytes that JSR leaves on the stack, in canonical memory (R221). -/
theorem read_semJsr {s : State} (hwf : s.mem.wf = true) (w : Addr) :
    (s.semJsr w).mem.read (slot s 0xFF#8) = loByte (s.pc + 2#16) ∧
      (s.semJsr w).mem.read (slot s 0#8) = hiByte (s.pc + 2#16) := by
  simp only [semJsr_eq]
  exact ⟨Memory.read_write_same (Memory.wf_write hwf _ _) _ _,
    (Memory.read_write_ne (slot_zero_ne_slot_below s) _ _).trans (Memory.read_write_same hwf _ _)⟩

/-- Settles O42: the slots above the SP that JSR leaves are the two it wrote, and the word in them is PC + 2. -/
theorem rtsReturnsAfterJsr : Obligations.RtsReturnsAfterJsr := by
  unfold Obligations.RtsReturnsAfterJsr
  intro s w hwf
  refine ⟨s.semJsr w, rfl, rfl, fun u husp hlo hhi => congrArg Host.Outcome.next ?_⟩
  have hsp : (s.semJsr w).sp = s.sp - 2#8 := by rw [semJsr_eq]
  have hslotLo : slot (s.semJsr w) 1#8 = slot s 0xFF#8 := congrArg stackAddr (by rw [hsp]; bv_omega)
  have hslotHi : slot (s.semJsr w) 2#8 = slot s 0#8 := congrArg stackAddr (by rw [hsp]; bv_omega)
  obtain ⟨hreadLo, hreadHi⟩ := read_semJsr hwf w
  have hslot (k : Byte) : slot u k = slot (s.semJsr w) k := congrArg (fun sp => stackAddr (sp + k)) husp
  have hpc : word (loByte (s.pc + 2#16)) (hiByte (s.pc + 2#16)) + 1#16 = s.pc + 3#16 := by
    rw [word_loByte_hiByte]
    bv_omega
  have hback : s.sp - 2#8 + 2#8 = s.sp := by bv_omega
  rw [semRts_eq, hslot, hslot, hlo, hhi, hslotLo, hslotHi, hreadLo, hreadHi, husp, hsp, hback]
  exact congrArg (fun pc => { u with pc := pc, sp := s.sp }) hpc

/-- Settles O43: the result state is the one `State.semBrk` is defined to be. -/
theorem brkSetsBreakOnly : Obligations.BrkSetsBreakOnly := by
  unfold Obligations.BrkSetsBreakOnly
  exact fun s => does_op0 (u := s.semBrk) rfl rfl rfl

/-! ## The status on the stack -/

/-- The pushed Break bit is B, or 1 when the parameter says so (R27). -/
theorem pushedBreak_eq (s : State) : pushedBreak s = (s.b || decide (s.params.phpBreakBit = .alwaysOne)) := by
  cases h : s.params.phpBreakBit <;> simp [pushedBreak, h]

theorem packP_eq_packed (s : State) : packP s = packed s (s.b || decide (s.params.phpBreakBit = .alwaysOne)) := by
  simp only [packP, packed, pushedBreak_eq, flagAt_eq_flagBit]

/-- Settles O45: PHP is one push of the packed status, and PLP unpacks the byte above SP. -/
theorem phpPlpMoveStatus : Obligations.PhpPlpMoveStatus := by
  unfold Obligations.PhpPlpMoveStatus
  intro s
  have hphp := push_advance s 1#16 (packP s)
  have hplp : s.semPlp = { unpacked s (s.mem.read (slot s 1#8)) with pc := s.pc + 1#16, sp := s.sp + 1#8 } := rfl
  rw [packP_eq_packed] at hphp
  exact ⟨does_op0 (u := s.semPhp) rfl rfl (packP_eq_packed s ▸ hphp), does_op0 rfl rfl hplp⟩

/-- Unpacking a packed status gives six flags back, and B as it was pushed (R27, R28). -/
theorem unpackP_packP (s t : State) :
    t.unpackP (packP s) = { t with n := s.n, v := s.v, b := pushedBreak s, d := s.d, i := s.i, z := s.z, c := s.c } := by
  obtain ⟨hn, hv, -, hb, hd, hi, hz, hc⟩ := packP_bits s
  simp only [State.unpackP, hn, hv, hb, hd, hi, hz, hc]

/-- PHP then PLP: PC has moved past both, the pushed byte is in memory, and B is as it was pushed. -/
theorem semPlp_semPhp {s : State} (hwf : s.mem.wf = true) :
    s.semPhp.semPlp = { s with pc := s.pc + 2#16, mem := s.semPhp.mem, b := pushedBreak s } := by
  have hbyte : s.semPhp.pullByte = packP s := State.pullByte_push (s := s.advance 1#16) hwf _
  have hpc : s.pc + 1#16 + 1#16 = s.pc + 2#16 := by bv_omega
  rw [State.semPlp, hbyte, unpackP_packP]
  simp [State.semPhp, hpc]

/-- Settles O46: B is pushed as it stands or as 1, by the parameter. -/
theorem plpUndoesPhp : Obligations.PlpUndoesPhp := by
  unfold Obligations.PlpUndoesPhp
  intro s hwf
  refine ⟨s.semPhp, rfl, fun hparam => ?_, fun hparam => ?_⟩
  · have hb : pushedBreak s = s.b := by rw [pushedBreak, hparam]
    exact congrArg Host.Outcome.next (hb ▸ semPlp_semPhp hwf)
  · have hb : pushedBreak s = true := by rw [pushedBreak, hparam]
    exact congrArg Host.Outcome.next (hb ▸ semPlp_semPhp hwf)

/-! ## Undefined bytes -/

/-- Settles O48: a listed byte is absent from the table, and its meaning is the one diagnostic (R253). -/
theorem undefinedBytesAreDiagnosed : Obligations.UndefinedBytesAreDiagnosed := by
  unfold Obligations.UndefinedBytesAreDiagnosed
  exact fun s op hop => ⟨decode_of_mem_undefinedBytes hop [], rfl⟩

end Sys2Proof
end

section
/-! Nine rotates are the identity (43_shift_rotate.md R204): the operand and C are a ring of nine bits, and a rotate
moves every bit of it one place on. -/

namespace Sys2Proof

open Machine Rules

/-! ## The ring of nine bits -/

/-- The bits of the operand at the places 0 to 7, and C at place 8. -/
def ringBit (p : Byte × Bool) (j : Fin 9) : Bool := if j.val < 8 then p.1.getLsbD j.val else p.2

theorem eq_of_ringBit {p q : Byte × Bool} (h : ∀ j, ringBit p j = ringBit q j) : p = q := by
  refine Prod.ext (BitVec.eq_of_getLsbD_eq fun k hk => ?_) (h 8)
  have hj := h ⟨k, by omega⟩
  simpa only [ringBit, hk, if_true] using hj

/-- ROL moves the bit at each place to the next (R202). -/
theorem ringBit_rol (p : Byte × Bool) (j : Fin 9) : ringBit (rol p.1 p.2) (j + 1) = ringBit p j := by
  obtain ⟨v, c⟩ := p
  fin_cases j <;> cases c <;> simp [ringBit, rol]

/-- ROR moves the bit at each place to the one before, which is eight on (R203). -/
theorem ringBit_ror (p : Byte × Bool) (j : Fin 9) : ringBit (ror p.1 p.2) (j + 8) = ringBit p j := by
  obtain ⟨v, c⟩ := p
  fin_cases j <;> cases c <;> simp [ringBit, ror]

/-- One shift or rotate as a function of the operand and C together. -/
def onPair (f : Byte → Bool → Byte × Bool) (p : Byte × Bool) : Byte × Bool := f p.1 p.2

/-- If one application moves every bit `d` places on, then `k` of them move it `k • d` places on. -/
theorem ringBit_iterate {f : Byte → Bool → Byte × Bool} {d : Fin 9}
    (h : ∀ p j, ringBit (f p.1 p.2) (j + d) = ringBit p j) (k : Nat) (p : Byte × Bool) (j : Fin 9) :
    ringBit ((onPair f)^[k] p) (j + k • d) = ringBit p j := by
  induction k generalizing p j with
  | zero => simp
  | succ k ih =>
    rw [Function.iterate_succ_apply, succ_nsmul', ← add_assoc, ih]
    exact h p j

/-- Nine applications bring every bit back. -/
theorem iterate_nine_of_ringBit {f : Byte → Bool → Byte × Bool} {d : Fin 9}
    (h : ∀ p j, ringBit (f p.1 p.2) (j + d) = ringBit p j) (p : Byte × Bool) : (onPair f)^[9] p = p := by
  refine eq_of_ringBit fun j => ?_
  have hround : ∀ d : Fin 9, 9 • d = 0 := by decide
  have hj := ringBit_iterate h 9 p j
  rwa [hround d, add_zero] at hj

/-! ## Executing an instruction over and over -/

/-- A relation that each execution takes on to the next count holds after `k` of them. -/
theorem repeated_of_exec {i : Instr} {R : Nat → State → Prop}
    (hexec : ∀ j t, R j t → ∃ u, exec i t = .next u ∧ R (j + 1) u) (k : Nat) {j : Nat} {s : State} (h : R j s) :
    ∃ t, repeated i k s = some t ∧ R (j + k) t := by
  induction k generalizing j s with
  | zero => exact ⟨s, rfl, h⟩
  | succ k ih =>
    obtain ⟨u, hu, hR⟩ := hexec j s h
    obtain ⟨t, ht, hRt⟩ := ih hR
    refine ⟨t, ?_, by rwa [Nat.add_assoc, Nat.add_comm 1] at hRt⟩
    rw [repeated, hu]
    exact ht

/-- After `k` of them on A: A and C are rotated `k` times, and memory is as it was. -/
def RotatedA (f : Byte → Bool → Byte × Bool) (s : State) (k : Nat) (t : State) : Prop :=
  (t.a, t.c) = (onPair f)^[k] (s.a, s.c) ∧ t.mem = s.mem

/-- After `k` of them on the byte at `ea`: it and C are rotated `k` times, and A, X and the other bytes are as they
were. -/
structure RotatedMem (f : Byte → Bool → Byte × Bool) (s : State) (ea : Addr) (k : Nat) (t : State) : Prop where
  operand : (t.mem.read ea, t.c) = (onPair f)^[k] (s.mem.read ea, s.c)
  a : t.a = s.a
  x : t.x = s.x
  canonical : t.mem.wf = true
  others : ∀ addr, addr ≠ ea → t.mem.read addr = s.mem.read addr

theorem RotatedA.shiftedA {f : Byte → Bool → Byte × Bool} {s t : State} {k : Nat} (h : RotatedA f s k t) :
    RotatedA f s (k + 1) (shiftedA f t) := by
  obtain ⟨hpair, hmem⟩ := h
  refine ⟨?_, hmem⟩
  rw [Function.iterate_succ_apply', ← hpair]
  rfl

theorem RotatedMem.shiftedMem {f : Byte → Bool → Byte × Bool} {s t : State} {ea : Addr} {k : Nat}
    (h : RotatedMem f s ea k t) (len : Addr) : RotatedMem f s ea (k + 1) (shiftedMem f t len ea) where
  operand := by
    rw [Function.iterate_succ_apply', ← h.operand]
    exact Prod.ext (Memory.read_write_same h.canonical ea _) rfl
  a := h.a
  x := h.x
  canonical := Memory.wf_write h.canonical ea _
  others addr hne := (Memory.read_write_ne hne _ _).trans (h.others addr hne)

/-! ## ROL and ROR -/

/-- The instruction applies `f` to A and C, or to C and a byte of memory whose address depends on X alone. -/
def Rotates (f : Byte → Bool → Byte × Bool) (i : Instr) : Prop :=
  (∀ s, exec i s = .next (shiftedA f s)) ∨
  ∃ m, (∀ s t : State, t.x = s.x → effectiveAddress t m = effectiveAddress s m) ∧
    ∀ s, exec i s = .next (shiftedMem f s m.length (effectiveAddress s m))

theorem rotates_of_rol {i : Instr} (h : i.mnemonic = .rol) : Rotates rol i := by
  have onMem (m : MemOperand) (s : State) :
      (.next (s.semRol (.memory m)) : Result) = .next (shiftedMem rol s m.length (effectiveAddress s m)) :=
    congrArg _ (semRol_eq_shiftedMem s m)
  cases i with
  | rolAccumulator => exact .inl fun s => congrArg _ (semRol_eq_shiftedA s)
  | rolZeroPage z => exact .inr ⟨.zeroPage z, fun s t _ => rfl, onMem _⟩
  | rolZeroPageX z => exact .inr ⟨.zeroPageX z, fun s t hx => by simp only [effectiveAddress, hx], onMem _⟩
  | rolAbsolute w => exact .inr ⟨.absolute w, fun s t _ => rfl, onMem _⟩
  | rolAbsoluteX w => exact .inr ⟨.absoluteX w, fun s t hx => by simp only [effectiveAddress, hx], onMem _⟩
  | _ => cases h

theorem rotates_of_ror {i : Instr} (h : i.mnemonic = .ror) : Rotates ror i := by
  have onMem (m : MemOperand) (s : State) :
      (.next (s.semRor (.memory m)) : Result) = .next (shiftedMem ror s m.length (effectiveAddress s m)) :=
    congrArg _ (semRor_eq_shiftedMem s m)
  cases i with
  | rorAccumulator => exact .inl fun s => congrArg _ (semRor_eq_shiftedA s)
  | rorZeroPage z => exact .inr ⟨.zeroPage z, fun s t _ => rfl, onMem _⟩
  | rorZeroPageX z => exact .inr ⟨.zeroPageX z, fun s t hx => by simp only [effectiveAddress, hx], onMem _⟩
  | rorAbsolute w => exact .inr ⟨.absolute w, fun s t _ => rfl, onMem _⟩
  | rorAbsoluteX w => exact .inr ⟨.absoluteX w, fun s t hx => by simp only [effectiveAddress, hx], onMem _⟩
  | _ => cases h

/-- Nine of them give back the operand and C, when nine applications of `f` do. -/
theorem Rotates.nine {f : Byte → Bool → Byte × Bool} {i : Instr} (hi : Rotates f i)
    (hnine : ∀ p, (onPair f)^[9] p = p) {s : State} (hwf : s.mem.wf = true) :
    ∃ t, repeated i 9 s = some t ∧ t.a = s.a ∧ t.c = s.c ∧ ∀ addr, t.mem.read addr = s.mem.read addr := by
  obtain hexec | ⟨m, hea, hexec⟩ := hi
  · have hstart : RotatedA f s 0 s := ⟨rfl, rfl⟩
    obtain ⟨t, ht, hpair, hmem⟩ := repeated_of_exec (fun j t h => ⟨_, hexec t, h.shiftedA⟩) 9 hstart
    rw [Nat.zero_add, hnine] at hpair
    obtain ⟨ha, hc⟩ := Prod.mk.inj hpair
    exact ⟨t, ht, ha, hc, fun addr => by rw [hmem]⟩
  · have hstart : RotatedMem f s (effectiveAddress s m) 0 s := ⟨rfl, rfl, rfl, hwf, fun _ _ => rfl⟩
    have hnext (j : Nat) (t : State) (h : RotatedMem f s (effectiveAddress s m) j t) :
        ∃ u, exec i t = .next u ∧ RotatedMem f s (effectiveAddress s m) (j + 1) u :=
      ⟨_, hexec t, hea s t h.x ▸ h.shiftedMem m.length⟩
    obtain ⟨t, ht, hR⟩ := repeated_of_exec hnext 9 hstart
    have hpair := hR.operand
    rw [Nat.zero_add, hnine] at hpair
    obtain ⟨hread, hc⟩ := Prod.mk.inj hpair
    refine ⟨t, ht, hR.a, hc, fun addr => ?_⟩
    by_cases haddr : addr = effectiveAddress s m
    · rw [haddr, hread]
    · exact hR.others addr haddr

/-- Settles O36: each rotate moves the ring of nine bits by one place, so nine of them bring it round. -/
theorem nineRotatesAreIdentity : Obligations.NineRotatesAreIdentity := by
  unfold Obligations.NineRotatesAreIdentity
  intro i s hi hwf
  obtain hrol | hror := hi
  · exact (rotates_of_rol hrol).nine (iterate_nine_of_ringBit ringBit_rol) hwf
  · exact (rotates_of_ror hror).nine (iterate_nine_of_ringBit ringBit_ror) hwf

end Sys2Proof
end

section
/-! The default `OverflowFn` (42_arithmetic_logic.md R170): its bit formulas say that the signed result is out of range.
A byte's signed value is its unsigned value less 256 when bit 7 is set, so both sides are linear. -/

namespace Sys2Proof

open Machine Rules

/-- The test of bit 7, as the formulas make it. -/
theorem and_signBit_ne_zero (b : Byte) : (b &&& 0x80#8 ≠ 0x00#8) ↔ b.msb = true := by
  rw [show 0x80#8 = BitVec.twoPow 8 7 from rfl, BitVec.and_twoPow, BitVec.msb_eq_getLsbD_last]
  cases b.getLsbD 7 <;> decide

/-- The sign of ADC's result differs from the signs of both operands (R171). -/
theorem adcOverflow_standard_iff (a m r : Byte) :
    adcOverflow .standard a m r = true ↔ a.msb ≠ r.msb ∧ m.msb ≠ r.msb := by
  rw [adcOverflow, decide_eq_true_iff, and_signBit_ne_zero, BitVec.msb_and, BitVec.msb_xor, BitVec.msb_xor]
  simp

/-- The operands of SBC differ in sign, and the result has not the sign of A (R172). -/
theorem sbcOverflow_standard_iff (a m r : Byte) :
    sbcOverflow .standard a m r = true ↔ a.msb ≠ m.msb ∧ a.msb ≠ r.msb := by
  rw [sbcOverflow, decide_eq_true_iff, and_signBit_ne_zero, BitVec.msb_and, BitVec.msb_xor, BitVec.msb_xor]
  simp

theorem adcOverflow_iff_signed (a m : Byte) (c : Bool) :
    adcOverflow .standard a m (adcResult a m c) = true ↔
      a.toInt + m.toInt + c.toInt < -128 ∨ a.toInt + m.toInt + c.toInt > 127 := by
  have hr : (adcResult a m c).toNat = (a.toNat + m.toNat + c.toNat) % 256 := BitVec.toNat_ofNat _ _
  rw [adcOverflow_standard_iff]
  simp only [BitVec.msb_eq_decide, hr, BitVec.toInt_eq_toNat_cond, ne_eq, decide_eq_decide]
  have ha := a.isLt
  have hm := m.isLt
  cases c <;> simp only [Bool.toNat_false, Bool.toNat_true, Bool.toInt_false, Bool.toInt_true] <;> omega

theorem sbcOverflow_iff_signed (a m : Byte) (c : Bool) :
    sbcOverflow .standard a m (sbcResult a m c) = true ↔
      a.toInt - m.toInt - (1 - c.toInt) < -128 ∨ a.toInt - m.toInt - (1 - c.toInt) > 127 := by
  have hr : ((sbcResult a m c).toNat : Int) = ((a.toNat : Int) - m.toNat - (1 - (c.toNat : Int))) % 256 := by
    rw [sbcResult, BitVec.toNat_ofInt]
    exact Int.toNat_of_nonneg (Int.emod_nonneg _ (by decide))
  rw [sbcOverflow_standard_iff]
  simp only [BitVec.msb_eq_decide, BitVec.toInt_eq_toNat_cond, ne_eq, decide_eq_decide]
  have ha := a.isLt
  have hm := m.isLt
  cases c <;> simp only [Bool.toNat_false, Bool.toNat_true, Bool.toInt_false, Bool.toInt_true] at * <;> omega

/-! ## The operand that ADC and SBC read -/

theorem Meaning.eq_semAdc {f : State → State} {k : Mode} {m : MemOperand} (h : Meaning .adc f k (some m)) :
    f = (·.semAdc (.memory m)) := by
  generalize ho : some m = o at h
  cases h with
  | adc src =>
    cases src with
    | immediate v => cases ho
    | memory m' => rw [Option.some.inj ho]

theorem Meaning.eq_semSbc {f : State → State} {k : Mode} {m : MemOperand} (h : Meaning .sbc f k (some m)) :
    f = (·.semSbc (.memory m)) := by
  generalize ho : some m = o at h
  cases h with
  | sbc src =>
    cases src with
    | immediate v => cases ho
    | memory m' => rw [Option.some.inj ho]

/-- The byte an ADC or SBC reads is its source's, the immediate byte or the memory operand. -/
theorem exec_adc_or_sbc {i : Instr} {s t : State} {m : Byte} (hm : ReadsOperand i s m) (h : exec i s = .next t) :
    ∃ src, readSource s src = m ∧ (i.mnemonic = .adc → t = s.semAdc src) ∧
      (i.mnemonic = .sbc → t = s.semSbc src) := by
  obtain rfl | rfl | ⟨o, ho, rfl⟩ := hm
  · exact ⟨.immediate m, rfl, fun _ => (Host.Outcome.next.inj h).symm, nofun⟩
  · exact ⟨.immediate m, rfl, nofun, fun _ => (Host.Outcome.next.inj h).symm⟩
  · obtain ⟨f, hf, -, rfl⟩ := meaning_of_exec h
    rw [ho] at hf
    refine ⟨.memory o, rfl, fun hn => ?_, fun hn => ?_⟩ <;> rw [hn] at hf
    · exact congrFun hf.eq_semAdc s
    · exact congrFun hf.eq_semSbc s

/-- Settles O29: V is the default formula's, and the formula is the signed range's. -/
theorem overflowMeansSignedRange : Obligations.OverflowMeansSignedRange := by
  unfold Obligations.OverflowMeansSignedRange
  intro i s t m hstandard hm h
  obtain ⟨src, rfl, hadc, hsbc⟩ := exec_adc_or_sbc hm h
  refine ⟨fun hn => ?_, fun hn => ?_⟩
  · rw [← adcOverflow_iff_signed, hadc hn, semAdc_eq_added, hstandard]
    rfl
  · rw [← sbcOverflow_iff_signed, hsbc hn, semSbc_eq_subtracted, hstandard]
    rfl

end Sys2Proof
end
